-- ==== Sys2Proof/Word.lean ====
section
/-!
DEFINITION. The word types of the machine (spec/00_scope.md R7, R9): a u8 is a byte, the width of A, X, Y, SP, P
and of a memory cell; a u16 is an address, the width of PC.
-/

namespace Sys2Proof

/-- A u8 of R9 (DATA_WIDTH of R7). -/
abbrev Byte := BitVec 8

/-- A u16 of R9 (ADDR_WIDTH of R7). -/
abbrev Addr := BitVec 16

end Sys2Proof
end

