-- ==== Sys2Proof/Config.lean ====
section
/-!
DEFINITION. The implementation parameters of 00_scope.md R7 that a model takes as arguments: the flag pattern and the
source of PC at reset. R7's fixed values stand where they are used (Machine/Memory.lean, Machine/State.lean,
Machine/Ops.lean). No behaviour of this hardware needs a free value (93_implementation_defined.md part 1).
-/

namespace Sys2Proof

/-- RESET_PC_SOURCE of R7: the reset vector, or an address fixed by the implementation (92_eei_decisions.md D3). -/
inductive ResetPcSource where
  | vector
  | fixed (a : Addr)
deriving DecidableEq, Repr

/-- The two open parameters of R7, with the defaults the spec decides (92_eei_decisions.md D3, D4). -/
structure Config where
  resetP : Byte := 0x24
  resetPcSource : ResetPcSource := .vector
deriving DecidableEq, Repr

end Sys2Proof
end

