-- ==== Sys2Proof/Syntax.lean ====
section
/-!
DEFINITION. The instructions: one constructor for each of the 151 rows of spec/opcode_table.json (30_encoding.md R93,
R97), carrying the row's operand bytes (R91, R99): a `Byte` for an immediate `v`, a zero-page address `a` or a relative
offset `off`; an `Addr` `w` (already assembled little-endian) for an absolute address, base or pointer.
-/

namespace Sys2Proof

/-- One documented opcode with its operand. Each line names the opcode byte, the mnemonic and the mode. -/
inductive Instr where
  -- Loads, stores and transfers (42_load_store_transfer.md)
  | ldaImm (v : Byte)         -- 0xA9 LDA #, R170
  | ldaZp (a : Byte)          -- 0xA5 LDA zp, R170
  | ldaZpX (a : Byte)         -- 0xB5 LDA zp,X, R170
  | ldaAbs (w : Addr)         -- 0xAD LDA abs, R170
  | ldaAbsX (w : Addr)        -- 0xBD LDA abs,X, R170
  | ldaAbsY (w : Addr)        -- 0xB9 LDA abs,Y, R170
  | ldaIndX (a : Byte)        -- 0xA1 LDA (zp,X), R170
  | ldaIndY (a : Byte)        -- 0xB1 LDA (zp),Y, R170
  | ldxImm (v : Byte)         -- 0xA2 LDX #, R171
  | ldxZp (a : Byte)          -- 0xA6 LDX zp, R171
  | ldxZpY (a : Byte)         -- 0xB6 LDX zp,Y, R171
  | ldxAbs (w : Addr)         -- 0xAE LDX abs, R171
  | ldxAbsY (w : Addr)        -- 0xBE LDX abs,Y, R171
  | ldyImm (v : Byte)         -- 0xA0 LDY #, R172
  | ldyZp (a : Byte)          -- 0xA4 LDY zp, R172
  | ldyZpX (a : Byte)         -- 0xB4 LDY zp,X, R172
  | ldyAbs (w : Addr)         -- 0xAC LDY abs, R172
  | ldyAbsX (w : Addr)        -- 0xBC LDY abs,X, R172
  | staZp (a : Byte)          -- 0x85 STA zp, R173
  | staZpX (a : Byte)         -- 0x95 STA zp,X, R173
  | staAbs (w : Addr)         -- 0x8D STA abs, R173
  | staAbsX (w : Addr)        -- 0x9D STA abs,X, R173
  | staAbsY (w : Addr)        -- 0x99 STA abs,Y, R173
  | staIndX (a : Byte)        -- 0x81 STA (zp,X), R173
  | staIndY (a : Byte)        -- 0x91 STA (zp),Y, R173
  | stxZp (a : Byte)          -- 0x86 STX zp, R174
  | stxZpY (a : Byte)         -- 0x96 STX zp,Y, R174
  | stxAbs (w : Addr)         -- 0x8E STX abs, R174
  | styZp (a : Byte)          -- 0x84 STY zp, R175
  | styZpX (a : Byte)         -- 0x94 STY zp,X, R175
  | styAbs (w : Addr)         -- 0x8C STY abs, R175
  | tax                       -- 0xAA TAX, R176
  | tay                       -- 0xA8 TAY, R177
  | txa                       -- 0x8A TXA, R178
  | tya                       -- 0x98 TYA, R179
  | tsx                       -- 0xBA TSX, R180
  | txs                       -- 0x9A TXS, R181
  -- Stack (43_stack.md)
  | pha                       -- 0x48 PHA, R200
  | php                       -- 0x08 PHP, R201
  | pla                       -- 0x68 PLA, R202
  | plp                       -- 0x28 PLP, R203
  -- Arithmetic, compare, increment, decrement (44_arithmetic.md)
  | adcImm (v : Byte)         -- 0x69 ADC #, R210
  | adcZp (a : Byte)          -- 0x65 ADC zp, R210
  | adcZpX (a : Byte)         -- 0x75 ADC zp,X, R210
  | adcAbs (w : Addr)         -- 0x6D ADC abs, R210
  | adcAbsX (w : Addr)        -- 0x7D ADC abs,X, R210
  | adcAbsY (w : Addr)        -- 0x79 ADC abs,Y, R210
  | adcIndX (a : Byte)        -- 0x61 ADC (zp,X), R210
  | adcIndY (a : Byte)        -- 0x71 ADC (zp),Y, R210
  | sbcImm (v : Byte)         -- 0xE9 SBC #, R212
  | sbcZp (a : Byte)          -- 0xE5 SBC zp, R212
  | sbcZpX (a : Byte)         -- 0xF5 SBC zp,X, R212
  | sbcAbs (w : Addr)         -- 0xED SBC abs, R212
  | sbcAbsX (w : Addr)        -- 0xFD SBC abs,X, R212
  | sbcAbsY (w : Addr)        -- 0xF9 SBC abs,Y, R212
  | sbcIndX (a : Byte)        -- 0xE1 SBC (zp,X), R212
  | sbcIndY (a : Byte)        -- 0xF1 SBC (zp),Y, R212
  | cmpImm (v : Byte)         -- 0xC9 CMP #, R215
  | cmpZp (a : Byte)          -- 0xC5 CMP zp, R215
  | cmpZpX (a : Byte)         -- 0xD5 CMP zp,X, R215
  | cmpAbs (w : Addr)         -- 0xCD CMP abs, R215
  | cmpAbsX (w : Addr)        -- 0xDD CMP abs,X, R215
  | cmpAbsY (w : Addr)        -- 0xD9 CMP abs,Y, R215
  | cmpIndX (a : Byte)        -- 0xC1 CMP (zp,X), R215
  | cmpIndY (a : Byte)        -- 0xD1 CMP (zp),Y, R215
  | cpxImm (v : Byte)         -- 0xE0 CPX #, R216
  | cpxZp (a : Byte)          -- 0xE4 CPX zp, R216
  | cpxAbs (w : Addr)         -- 0xEC CPX abs, R216
  | cpyImm (v : Byte)         -- 0xC0 CPY #, R217
  | cpyZp (a : Byte)          -- 0xC4 CPY zp, R217
  | cpyAbs (w : Addr)         -- 0xCC CPY abs, R217
  | incZp (a : Byte)          -- 0xE6 INC zp, R218
  | incZpX (a : Byte)         -- 0xF6 INC zp,X, R218
  | incAbs (w : Addr)         -- 0xEE INC abs, R218
  | incAbsX (w : Addr)        -- 0xFE INC abs,X, R218
  | decZp (a : Byte)          -- 0xC6 DEC zp, R219
  | decZpX (a : Byte)         -- 0xD6 DEC zp,X, R219
  | decAbs (w : Addr)         -- 0xCE DEC abs, R219
  | decAbsX (w : Addr)        -- 0xDE DEC abs,X, R219
  | inx                       -- 0xE8 INX, R220
  | iny                       -- 0xC8 INY, R221
  | dex                       -- 0xCA DEX, R222
  | dey                       -- 0x88 DEY, R223
  -- Logic, bit test, shift, rotate (45_logic_shift.md)
  | andImm (v : Byte)         -- 0x29 AND #, R240
  | andZp (a : Byte)          -- 0x25 AND zp, R240
  | andZpX (a : Byte)         -- 0x35 AND zp,X, R240
  | andAbs (w : Addr)         -- 0x2D AND abs, R240
  | andAbsX (w : Addr)        -- 0x3D AND abs,X, R240
  | andAbsY (w : Addr)        -- 0x39 AND abs,Y, R240
  | andIndX (a : Byte)        -- 0x21 AND (zp,X), R240
  | andIndY (a : Byte)        -- 0x31 AND (zp),Y, R240
  | oraImm (v : Byte)         -- 0x09 ORA #, R241
  | oraZp (a : Byte)          -- 0x05 ORA zp, R241
  | oraZpX (a : Byte)         -- 0x15 ORA zp,X, R241
  | oraAbs (w : Addr)         -- 0x0D ORA abs, R241
  | oraAbsX (w : Addr)        -- 0x1D ORA abs,X, R241
  | oraAbsY (w : Addr)        -- 0x19 ORA abs,Y, R241
  | oraIndX (a : Byte)        -- 0x01 ORA (zp,X), R241
  | oraIndY (a : Byte)        -- 0x11 ORA (zp),Y, R241
  | eorImm (v : Byte)         -- 0x49 EOR #, R242
  | eorZp (a : Byte)          -- 0x45 EOR zp, R242
  | eorZpX (a : Byte)         -- 0x55 EOR zp,X, R242
  | eorAbs (w : Addr)         -- 0x4D EOR abs, R242
  | eorAbsX (w : Addr)        -- 0x5D EOR abs,X, R242
  | eorAbsY (w : Addr)        -- 0x59 EOR abs,Y, R242
  | eorIndX (a : Byte)        -- 0x41 EOR (zp,X), R242
  | eorIndY (a : Byte)        -- 0x51 EOR (zp),Y, R242
  | bitZp (a : Byte)          -- 0x24 BIT zp, R243
  | bitAbs (w : Addr)         -- 0x2C BIT abs, R243
  | aslAcc                    -- 0x0A ASL A, R244
  | aslZp (a : Byte)          -- 0x06 ASL zp, R244
  | aslZpX (a : Byte)         -- 0x16 ASL zp,X, R244
  | aslAbs (w : Addr)         -- 0x0E ASL abs, R244
  | aslAbsX (w : Addr)        -- 0x1E ASL abs,X, R244
  | lsrAcc                    -- 0x4A LSR A, R245
  | lsrZp (a : Byte)          -- 0x46 LSR zp, R245
  | lsrZpX (a : Byte)         -- 0x56 LSR zp,X, R245
  | lsrAbs (w : Addr)         -- 0x4E LSR abs, R245
  | lsrAbsX (w : Addr)        -- 0x5E LSR abs,X, R245
  | rolAcc                    -- 0x2A ROL A, R246
  | rolZp (a : Byte)          -- 0x26 ROL zp, R246
  | rolZpX (a : Byte)         -- 0x36 ROL zp,X, R246
  | rolAbs (w : Addr)         -- 0x2E ROL abs, R246
  | rolAbsX (w : Addr)        -- 0x3E ROL abs,X, R246
  | rorAcc                    -- 0x6A ROR A, R247
  | rorZp (a : Byte)          -- 0x66 ROR zp, R247
  | rorZpX (a : Byte)         -- 0x76 ROR zp,X, R247
  | rorAbs (w : Addr)         -- 0x6E ROR abs, R247
  | rorAbsX (w : Addr)        -- 0x7E ROR abs,X, R247
  -- Control transfer (46_control.md)
  | bpl (off : Byte)          -- 0x10 BPL relative, R261
  | bmi (off : Byte)          -- 0x30 BMI relative, R262
  | bvc (off : Byte)          -- 0x50 BVC relative, R263
  | bvs (off : Byte)          -- 0x70 BVS relative, R264
  | bcc (off : Byte)          -- 0x90 BCC relative, R265
  | bcs (off : Byte)          -- 0xB0 BCS relative, R266
  | bne (off : Byte)          -- 0xD0 BNE relative, R267
  | beq (off : Byte)          -- 0xF0 BEQ relative, R268
  | jmpAbs (w : Addr)         -- 0x4C JMP abs, R270
  | jmpInd (w : Addr)         -- 0x6C JMP (abs), R270
  | jsr (w : Addr)            -- 0x20 JSR abs, R271
  | rts                       -- 0x60 RTS, R272
  | brk                       -- 0x00 BRK, R274
  | rti                       -- 0x40 RTI, R275
  -- Flags and NOP (47_flags_misc.md)
  | clc                       -- 0x18 CLC, R290
  | sec                       -- 0x38 SEC, R291
  | cli                       -- 0x58 CLI, R292
  | sei                       -- 0x78 SEI, R293
  | clv                       -- 0xB8 CLV, R294
  | cld                       -- 0xD8 CLD, R295
  | sed                       -- 0xF8 SED, R296
  | nop                       -- 0xEA NOP, R297
deriving DecidableEq, Repr

end Sys2Proof
end

