-- ==== Sys2Proof/WellFormed.lean ====
section
/-!
DEFINITION. Which forms exist: every mnemonic (30_encoding.md R97), every addressing mode (R91), which modes each
mnemonic admits (40_addressing_modes.md R137), and the form of each instruction. An operand byte takes every value and
none is reserved (30_encoding.md R96), so an instruction is well formed when its mnemonic admits its mode.
-/

namespace Sys2Proof

/-- The 13 addressing modes of 30_encoding.md R91. -/
inductive AddrMode where
  | imp | acc | imm | zp | zpX | zpY | rel | abs | absX | absY | ind | indX | indY
deriving DecidableEq, Repr

/-- The 56 mnemonics of 30_encoding.md R97. -/
inductive Mnemonic where
  | lda | ldx | ldy | sta | stx | sty | tax | tay | txa | tya | tsx | txs
  | pha | php | pla | plp
  | adc | sbc | cmp | cpx | cpy | inc | dec | inx | iny | dex | dey
  | and | ora | eor | bit | asl | lsr | rol | ror
  | bpl | bmi | bvc | bvs | bcc | bcs | bne | beq | jmp | jsr | rts | brk | rti
  | clc | sec | cli | sei | clv | cld | sed | nop
deriving DecidableEq, Repr

/-- The addressing modes each mnemonic admits: the filled cells of its row in 30_encoding.md R97 (R137). -/
def Mnemonic.modes : Mnemonic → List AddrMode
  | .lda => [.imm, .zp, .zpX, .abs, .absX, .absY, .indX, .indY]
  | .ldx => [.imm, .zp, .zpY, .abs, .absY]
  | .ldy => [.imm, .zp, .zpX, .abs, .absX]
  | .sta => [.zp, .zpX, .abs, .absX, .absY, .indX, .indY]
  | .stx => [.zp, .zpY, .abs]
  | .sty => [.zp, .zpX, .abs]
  | .tax => [.imp]
  | .tay => [.imp]
  | .txa => [.imp]
  | .tya => [.imp]
  | .tsx => [.imp]
  | .txs => [.imp]
  | .pha => [.imp]
  | .php => [.imp]
  | .pla => [.imp]
  | .plp => [.imp]
  | .adc => [.imm, .zp, .zpX, .abs, .absX, .absY, .indX, .indY]
  | .sbc => [.imm, .zp, .zpX, .abs, .absX, .absY, .indX, .indY]
  | .cmp => [.imm, .zp, .zpX, .abs, .absX, .absY, .indX, .indY]
  | .cpx => [.imm, .zp, .abs]
  | .cpy => [.imm, .zp, .abs]
  | .inc => [.zp, .zpX, .abs, .absX]
  | .dec => [.zp, .zpX, .abs, .absX]
  | .inx => [.imp]
  | .iny => [.imp]
  | .dex => [.imp]
  | .dey => [.imp]
  | .and => [.imm, .zp, .zpX, .abs, .absX, .absY, .indX, .indY]
  | .ora => [.imm, .zp, .zpX, .abs, .absX, .absY, .indX, .indY]
  | .eor => [.imm, .zp, .zpX, .abs, .absX, .absY, .indX, .indY]
  | .bit => [.zp, .abs]
  | .asl => [.acc, .zp, .zpX, .abs, .absX]
  | .lsr => [.acc, .zp, .zpX, .abs, .absX]
  | .rol => [.acc, .zp, .zpX, .abs, .absX]
  | .ror => [.acc, .zp, .zpX, .abs, .absX]
  | .bpl => [.rel]
  | .bmi => [.rel]
  | .bvc => [.rel]
  | .bvs => [.rel]
  | .bcc => [.rel]
  | .bcs => [.rel]
  | .bne => [.rel]
  | .beq => [.rel]
  | .jmp => [.abs, .ind]
  | .jsr => [.abs]
  | .rts => [.imp]
  | .brk => [.imp]
  | .rti => [.imp]
  | .clc => [.imp]
  | .sec => [.imp]
  | .cli => [.imp]
  | .sei => [.imp]
  | .clv => [.imp]
  | .cld => [.imp]
  | .sed => [.imp]
  | .nop => [.imp]

/-- A mnemonic with an addressing mode: what an assembler line names before its operand (30_encoding.md R100). -/
structure Form where
  mnemonic : Mnemonic
  mode : AddrMode
deriving DecidableEq, Repr

/-- 40_addressing_modes.md R137: "A mode/mnemonic pair absent from it has no opcode and cannot occur." -/
def Form.admitted (f : Form) : Bool := f.mnemonic.modes.contains f.mode

/-- The mnemonic and the addressing mode of an instruction. -/
def Instr.form : Instr → Form
  | .ldaImm _ => ⟨.lda, .imm⟩
  | .ldaZp _ => ⟨.lda, .zp⟩
  | .ldaZpX _ => ⟨.lda, .zpX⟩
  | .ldaAbs _ => ⟨.lda, .abs⟩
  | .ldaAbsX _ => ⟨.lda, .absX⟩
  | .ldaAbsY _ => ⟨.lda, .absY⟩
  | .ldaIndX _ => ⟨.lda, .indX⟩
  | .ldaIndY _ => ⟨.lda, .indY⟩
  | .ldxImm _ => ⟨.ldx, .imm⟩
  | .ldxZp _ => ⟨.ldx, .zp⟩
  | .ldxZpY _ => ⟨.ldx, .zpY⟩
  | .ldxAbs _ => ⟨.ldx, .abs⟩
  | .ldxAbsY _ => ⟨.ldx, .absY⟩
  | .ldyImm _ => ⟨.ldy, .imm⟩
  | .ldyZp _ => ⟨.ldy, .zp⟩
  | .ldyZpX _ => ⟨.ldy, .zpX⟩
  | .ldyAbs _ => ⟨.ldy, .abs⟩
  | .ldyAbsX _ => ⟨.ldy, .absX⟩
  | .staZp _ => ⟨.sta, .zp⟩
  | .staZpX _ => ⟨.sta, .zpX⟩
  | .staAbs _ => ⟨.sta, .abs⟩
  | .staAbsX _ => ⟨.sta, .absX⟩
  | .staAbsY _ => ⟨.sta, .absY⟩
  | .staIndX _ => ⟨.sta, .indX⟩
  | .staIndY _ => ⟨.sta, .indY⟩
  | .stxZp _ => ⟨.stx, .zp⟩
  | .stxZpY _ => ⟨.stx, .zpY⟩
  | .stxAbs _ => ⟨.stx, .abs⟩
  | .styZp _ => ⟨.sty, .zp⟩
  | .styZpX _ => ⟨.sty, .zpX⟩
  | .styAbs _ => ⟨.sty, .abs⟩
  | .tax => ⟨.tax, .imp⟩
  | .tay => ⟨.tay, .imp⟩
  | .txa => ⟨.txa, .imp⟩
  | .tya => ⟨.tya, .imp⟩
  | .tsx => ⟨.tsx, .imp⟩
  | .txs => ⟨.txs, .imp⟩
  | .pha => ⟨.pha, .imp⟩
  | .php => ⟨.php, .imp⟩
  | .pla => ⟨.pla, .imp⟩
  | .plp => ⟨.plp, .imp⟩
  | .adcImm _ => ⟨.adc, .imm⟩
  | .adcZp _ => ⟨.adc, .zp⟩
  | .adcZpX _ => ⟨.adc, .zpX⟩
  | .adcAbs _ => ⟨.adc, .abs⟩
  | .adcAbsX _ => ⟨.adc, .absX⟩
  | .adcAbsY _ => ⟨.adc, .absY⟩
  | .adcIndX _ => ⟨.adc, .indX⟩
  | .adcIndY _ => ⟨.adc, .indY⟩
  | .sbcImm _ => ⟨.sbc, .imm⟩
  | .sbcZp _ => ⟨.sbc, .zp⟩
  | .sbcZpX _ => ⟨.sbc, .zpX⟩
  | .sbcAbs _ => ⟨.sbc, .abs⟩
  | .sbcAbsX _ => ⟨.sbc, .absX⟩
  | .sbcAbsY _ => ⟨.sbc, .absY⟩
  | .sbcIndX _ => ⟨.sbc, .indX⟩
  | .sbcIndY _ => ⟨.sbc, .indY⟩
  | .cmpImm _ => ⟨.cmp, .imm⟩
  | .cmpZp _ => ⟨.cmp, .zp⟩
  | .cmpZpX _ => ⟨.cmp, .zpX⟩
  | .cmpAbs _ => ⟨.cmp, .abs⟩
  | .cmpAbsX _ => ⟨.cmp, .absX⟩
  | .cmpAbsY _ => ⟨.cmp, .absY⟩
  | .cmpIndX _ => ⟨.cmp, .indX⟩
  | .cmpIndY _ => ⟨.cmp, .indY⟩
  | .cpxImm _ => ⟨.cpx, .imm⟩
  | .cpxZp _ => ⟨.cpx, .zp⟩
  | .cpxAbs _ => ⟨.cpx, .abs⟩
  | .cpyImm _ => ⟨.cpy, .imm⟩
  | .cpyZp _ => ⟨.cpy, .zp⟩
  | .cpyAbs _ => ⟨.cpy, .abs⟩
  | .incZp _ => ⟨.inc, .zp⟩
  | .incZpX _ => ⟨.inc, .zpX⟩
  | .incAbs _ => ⟨.inc, .abs⟩
  | .incAbsX _ => ⟨.inc, .absX⟩
  | .decZp _ => ⟨.dec, .zp⟩
  | .decZpX _ => ⟨.dec, .zpX⟩
  | .decAbs _ => ⟨.dec, .abs⟩
  | .decAbsX _ => ⟨.dec, .absX⟩
  | .inx => ⟨.inx, .imp⟩
  | .iny => ⟨.iny, .imp⟩
  | .dex => ⟨.dex, .imp⟩
  | .dey => ⟨.dey, .imp⟩
  | .andImm _ => ⟨.and, .imm⟩
  | .andZp _ => ⟨.and, .zp⟩
  | .andZpX _ => ⟨.and, .zpX⟩
  | .andAbs _ => ⟨.and, .abs⟩
  | .andAbsX _ => ⟨.and, .absX⟩
  | .andAbsY _ => ⟨.and, .absY⟩
  | .andIndX _ => ⟨.and, .indX⟩
  | .andIndY _ => ⟨.and, .indY⟩
  | .oraImm _ => ⟨.ora, .imm⟩
  | .oraZp _ => ⟨.ora, .zp⟩
  | .oraZpX _ => ⟨.ora, .zpX⟩
  | .oraAbs _ => ⟨.ora, .abs⟩
  | .oraAbsX _ => ⟨.ora, .absX⟩
  | .oraAbsY _ => ⟨.ora, .absY⟩
  | .oraIndX _ => ⟨.ora, .indX⟩
  | .oraIndY _ => ⟨.ora, .indY⟩
  | .eorImm _ => ⟨.eor, .imm⟩
  | .eorZp _ => ⟨.eor, .zp⟩
  | .eorZpX _ => ⟨.eor, .zpX⟩
  | .eorAbs _ => ⟨.eor, .abs⟩
  | .eorAbsX _ => ⟨.eor, .absX⟩
  | .eorAbsY _ => ⟨.eor, .absY⟩
  | .eorIndX _ => ⟨.eor, .indX⟩
  | .eorIndY _ => ⟨.eor, .indY⟩
  | .bitZp _ => ⟨.bit, .zp⟩
  | .bitAbs _ => ⟨.bit, .abs⟩
  | .aslAcc => ⟨.asl, .acc⟩
  | .aslZp _ => ⟨.asl, .zp⟩
  | .aslZpX _ => ⟨.asl, .zpX⟩
  | .aslAbs _ => ⟨.asl, .abs⟩
  | .aslAbsX _ => ⟨.asl, .absX⟩
  | .lsrAcc => ⟨.lsr, .acc⟩
  | .lsrZp _ => ⟨.lsr, .zp⟩
  | .lsrZpX _ => ⟨.lsr, .zpX⟩
  | .lsrAbs _ => ⟨.lsr, .abs⟩
  | .lsrAbsX _ => ⟨.lsr, .absX⟩
  | .rolAcc => ⟨.rol, .acc⟩
  | .rolZp _ => ⟨.rol, .zp⟩
  | .rolZpX _ => ⟨.rol, .zpX⟩
  | .rolAbs _ => ⟨.rol, .abs⟩
  | .rolAbsX _ => ⟨.rol, .absX⟩
  | .rorAcc => ⟨.ror, .acc⟩
  | .rorZp _ => ⟨.ror, .zp⟩
  | .rorZpX _ => ⟨.ror, .zpX⟩
  | .rorAbs _ => ⟨.ror, .abs⟩
  | .rorAbsX _ => ⟨.ror, .absX⟩
  | .bpl _ => ⟨.bpl, .rel⟩
  | .bmi _ => ⟨.bmi, .rel⟩
  | .bvc _ => ⟨.bvc, .rel⟩
  | .bvs _ => ⟨.bvs, .rel⟩
  | .bcc _ => ⟨.bcc, .rel⟩
  | .bcs _ => ⟨.bcs, .rel⟩
  | .bne _ => ⟨.bne, .rel⟩
  | .beq _ => ⟨.beq, .rel⟩
  | .jmpAbs _ => ⟨.jmp, .abs⟩
  | .jmpInd _ => ⟨.jmp, .ind⟩
  | .jsr _ => ⟨.jsr, .abs⟩
  | .rts => ⟨.rts, .imp⟩
  | .brk => ⟨.brk, .imp⟩
  | .rti => ⟨.rti, .imp⟩
  | .clc => ⟨.clc, .imp⟩
  | .sec => ⟨.sec, .imp⟩
  | .cli => ⟨.cli, .imp⟩
  | .sei => ⟨.sei, .imp⟩
  | .clv => ⟨.clv, .imp⟩
  | .cld => ⟨.cld, .imp⟩
  | .sed => ⟨.sed, .imp⟩
  | .nop => ⟨.nop, .imp⟩

/-- An instruction is well formed when its mnemonic admits its mode (R137); no operand value is reserved (R96). -/
def Instr.wellFormed (i : Instr) : Bool := i.form.admitted

end Sys2Proof
end

