-- ==== Sys2Proof/Decode.lean ====
section
/-!
DEFINITION. Byte order, the decoder and the encoder. `decodeOpcode` is the 256-entry dispatch table of 30_encoding.md
R93, one function per row of its grid; `decode` reads an instruction from a list of bytes and rejects by name;
`Instr.row` is the opcode and base cycle count of the per-mnemonic table R97, and `encode` writes an instruction's bytes
from it. The two tables are written from different tables of the spec, so that their agreement says something.
-/

namespace Sys2Proof

/-- `hi:lo` of 00_scope.md R9, the u16 `lo + 256*hi`. -/
def addrOf (hi lo : Byte) : Addr := BitVec.ofNat 16 (lo.toNat + 256 * hi.toNat)

/-- `v[7:0]` of an address. -/
def loByte (w : Addr) : Byte := BitVec.ofNat 8 w.toNat

/-- `v[15:8]` of an address, its page number. -/
def hiByte (w : Addr) : Byte := BitVec.ofNat 8 (w.toNat / 256)

/-- `zext_16` of 00_scope.md R9. -/
def zext (b : Byte) : Addr := b.setWidth 16

/-- `sext_8` of 00_scope.md R9, as the u16 it is mod 2^16. -/
def sext (b : Byte) : Addr := b.signExtend 16

/-- How many bytes an instruction of this mode has (30_encoding.md R91). -/
def AddrMode.length : AddrMode → Nat
  | .imp | .acc => 1
  | .imm | .zp | .zpX | .zpY | .rel | .indX | .indY => 2
  | .abs | .absX | .absY | .ind => 3

/-- The byte length of an instruction, fixed by its mode (30_encoding.md R94). -/
def Instr.length (i : Instr) : Nat := i.form.mode.length

/-- Row 0x of the grid of 30_encoding.md R93, by the low nibble of the opcode; a column without an arm is illegal. -/
def decodeRow0 (lo : Nat) (b : Byte) (w : Addr) : Option Instr :=
  match lo with
  | 0x0 => some .brk
  | 0x1 => some (.oraIndX b)
  | 0x5 => some (.oraZp b)
  | 0x6 => some (.aslZp b)
  | 0x8 => some .php
  | 0x9 => some (.oraImm b)
  | 0xA => some .aslAcc
  | 0xD => some (.oraAbs w)
  | 0xE => some (.aslAbs w)
  | _ => none

/-- Row 1x of the grid of 30_encoding.md R93, by the low nibble of the opcode; a column without an arm is illegal. -/
def decodeRow1 (lo : Nat) (b : Byte) (w : Addr) : Option Instr :=
  match lo with
  | 0x0 => some (.bpl b)
  | 0x1 => some (.oraIndY b)
  | 0x5 => some (.oraZpX b)
  | 0x6 => some (.aslZpX b)
  | 0x8 => some .clc
  | 0x9 => some (.oraAbsY w)
  | 0xD => some (.oraAbsX w)
  | 0xE => some (.aslAbsX w)
  | _ => none

/-- Row 2x of the grid of 30_encoding.md R93, by the low nibble of the opcode; a column without an arm is illegal. -/
def decodeRow2 (lo : Nat) (b : Byte) (w : Addr) : Option Instr :=
  match lo with
  | 0x0 => some (.jsr w)
  | 0x1 => some (.andIndX b)
  | 0x4 => some (.bitZp b)
  | 0x5 => some (.andZp b)
  | 0x6 => some (.rolZp b)
  | 0x8 => some .plp
  | 0x9 => some (.andImm b)
  | 0xA => some .rolAcc
  | 0xC => some (.bitAbs w)
  | 0xD => some (.andAbs w)
  | 0xE => some (.rolAbs w)
  | _ => none

/-- Row 3x of the grid of 30_encoding.md R93, by the low nibble of the opcode; a column without an arm is illegal. -/
def decodeRow3 (lo : Nat) (b : Byte) (w : Addr) : Option Instr :=
  match lo with
  | 0x0 => some (.bmi b)
  | 0x1 => some (.andIndY b)
  | 0x5 => some (.andZpX b)
  | 0x6 => some (.rolZpX b)
  | 0x8 => some .sec
  | 0x9 => some (.andAbsY w)
  | 0xD => some (.andAbsX w)
  | 0xE => some (.rolAbsX w)
  | _ => none

/-- Row 4x of the grid of 30_encoding.md R93, by the low nibble of the opcode; a column without an arm is illegal. -/
def decodeRow4 (lo : Nat) (b : Byte) (w : Addr) : Option Instr :=
  match lo with
  | 0x0 => some .rti
  | 0x1 => some (.eorIndX b)
  | 0x5 => some (.eorZp b)
  | 0x6 => some (.lsrZp b)
  | 0x8 => some .pha
  | 0x9 => some (.eorImm b)
  | 0xA => some .lsrAcc
  | 0xC => some (.jmpAbs w)
  | 0xD => some (.eorAbs w)
  | 0xE => some (.lsrAbs w)
  | _ => none

/-- Row 5x of the grid of 30_encoding.md R93, by the low nibble of the opcode; a column without an arm is illegal. -/
def decodeRow5 (lo : Nat) (b : Byte) (w : Addr) : Option Instr :=
  match lo with
  | 0x0 => some (.bvc b)
  | 0x1 => some (.eorIndY b)
  | 0x5 => some (.eorZpX b)
  | 0x6 => some (.lsrZpX b)
  | 0x8 => some .cli
  | 0x9 => some (.eorAbsY w)
  | 0xD => some (.eorAbsX w)
  | 0xE => some (.lsrAbsX w)
  | _ => none

/-- Row 6x of the grid of 30_encoding.md R93, by the low nibble of the opcode; a column without an arm is illegal. -/
def decodeRow6 (lo : Nat) (b : Byte) (w : Addr) : Option Instr :=
  match lo with
  | 0x0 => some .rts
  | 0x1 => some (.adcIndX b)
  | 0x5 => some (.adcZp b)
  | 0x6 => some (.rorZp b)
  | 0x8 => some .pla
  | 0x9 => some (.adcImm b)
  | 0xA => some .rorAcc
  | 0xC => some (.jmpInd w)
  | 0xD => some (.adcAbs w)
  | 0xE => some (.rorAbs w)
  | _ => none

/-- Row 7x of the grid of 30_encoding.md R93, by the low nibble of the opcode; a column without an arm is illegal. -/
def decodeRow7 (lo : Nat) (b : Byte) (w : Addr) : Option Instr :=
  match lo with
  | 0x0 => some (.bvs b)
  | 0x1 => some (.adcIndY b)
  | 0x5 => some (.adcZpX b)
  | 0x6 => some (.rorZpX b)
  | 0x8 => some .sei
  | 0x9 => some (.adcAbsY w)
  | 0xD => some (.adcAbsX w)
  | 0xE => some (.rorAbsX w)
  | _ => none

/-- Row 8x of the grid of 30_encoding.md R93, by the low nibble of the opcode; a column without an arm is illegal. -/
def decodeRow8 (lo : Nat) (b : Byte) (w : Addr) : Option Instr :=
  match lo with
  | 0x1 => some (.staIndX b)
  | 0x4 => some (.styZp b)
  | 0x5 => some (.staZp b)
  | 0x6 => some (.stxZp b)
  | 0x8 => some .dey
  | 0xA => some .txa
  | 0xC => some (.styAbs w)
  | 0xD => some (.staAbs w)
  | 0xE => some (.stxAbs w)
  | _ => none

/-- Row 9x of the grid of 30_encoding.md R93, by the low nibble of the opcode; a column without an arm is illegal. -/
def decodeRow9 (lo : Nat) (b : Byte) (w : Addr) : Option Instr :=
  match lo with
  | 0x0 => some (.bcc b)
  | 0x1 => some (.staIndY b)
  | 0x4 => some (.styZpX b)
  | 0x5 => some (.staZpX b)
  | 0x6 => some (.stxZpY b)
  | 0x8 => some .tya
  | 0x9 => some (.staAbsY w)
  | 0xA => some .txs
  | 0xD => some (.staAbsX w)
  | _ => none

/-- Row Ax of the grid of 30_encoding.md R93, by the low nibble of the opcode; a column without an arm is illegal. -/
def decodeRowA (lo : Nat) (b : Byte) (w : Addr) : Option Instr :=
  match lo with
  | 0x0 => some (.ldyImm b)
  | 0x1 => some (.ldaIndX b)
  | 0x2 => some (.ldxImm b)
  | 0x4 => some (.ldyZp b)
  | 0x5 => some (.ldaZp b)
  | 0x6 => some (.ldxZp b)
  | 0x8 => some .tay
  | 0x9 => some (.ldaImm b)
  | 0xA => some .tax
  | 0xC => some (.ldyAbs w)
  | 0xD => some (.ldaAbs w)
  | 0xE => some (.ldxAbs w)
  | _ => none

/-- Row Bx of the grid of 30_encoding.md R93, by the low nibble of the opcode; a column without an arm is illegal. -/
def decodeRowB (lo : Nat) (b : Byte) (w : Addr) : Option Instr :=
  match lo with
  | 0x0 => some (.bcs b)
  | 0x1 => some (.ldaIndY b)
  | 0x4 => some (.ldyZpX b)
  | 0x5 => some (.ldaZpX b)
  | 0x6 => some (.ldxZpY b)
  | 0x8 => some .clv
  | 0x9 => some (.ldaAbsY w)
  | 0xA => some .tsx
  | 0xC => some (.ldyAbsX w)
  | 0xD => some (.ldaAbsX w)
  | 0xE => some (.ldxAbsY w)
  | _ => none

/-- Row Cx of the grid of 30_encoding.md R93, by the low nibble of the opcode; a column without an arm is illegal. -/
def decodeRowC (lo : Nat) (b : Byte) (w : Addr) : Option Instr :=
  match lo with
  | 0x0 => some (.cpyImm b)
  | 0x1 => some (.cmpIndX b)
  | 0x4 => some (.cpyZp b)
  | 0x5 => some (.cmpZp b)
  | 0x6 => some (.decZp b)
  | 0x8 => some .iny
  | 0x9 => some (.cmpImm b)
  | 0xA => some .dex
  | 0xC => some (.cpyAbs w)
  | 0xD => some (.cmpAbs w)
  | 0xE => some (.decAbs w)
  | _ => none

/-- Row Dx of the grid of 30_encoding.md R93, by the low nibble of the opcode; a column without an arm is illegal. -/
def decodeRowD (lo : Nat) (b : Byte) (w : Addr) : Option Instr :=
  match lo with
  | 0x0 => some (.bne b)
  | 0x1 => some (.cmpIndY b)
  | 0x5 => some (.cmpZpX b)
  | 0x6 => some (.decZpX b)
  | 0x8 => some .cld
  | 0x9 => some (.cmpAbsY w)
  | 0xD => some (.cmpAbsX w)
  | 0xE => some (.decAbsX w)
  | _ => none

/-- Row Ex of the grid of 30_encoding.md R93, by the low nibble of the opcode; a column without an arm is illegal. -/
def decodeRowE (lo : Nat) (b : Byte) (w : Addr) : Option Instr :=
  match lo with
  | 0x0 => some (.cpxImm b)
  | 0x1 => some (.sbcIndX b)
  | 0x4 => some (.cpxZp b)
  | 0x5 => some (.sbcZp b)
  | 0x6 => some (.incZp b)
  | 0x8 => some .inx
  | 0x9 => some (.sbcImm b)
  | 0xA => some .nop
  | 0xC => some (.cpxAbs w)
  | 0xD => some (.sbcAbs w)
  | 0xE => some (.incAbs w)
  | _ => none

/-- Row Fx of the grid of 30_encoding.md R93, by the low nibble of the opcode; a column without an arm is illegal. -/
def decodeRowF (lo : Nat) (b : Byte) (w : Addr) : Option Instr :=
  match lo with
  | 0x0 => some (.beq b)
  | 0x1 => some (.sbcIndY b)
  | 0x5 => some (.sbcZpX b)
  | 0x6 => some (.incZpX b)
  | 0x8 => some .sed
  | 0x9 => some (.sbcAbsY w)
  | 0xD => some (.sbcAbsX w)
  | 0xE => some (.incAbsX w)
  | _ => none

/-- `decode(b)` of 30_encoding.md R101, with the two bytes after the opcode at hand: the instruction, or `none` for the
illegal sentinel. Whether it is `none` depends on the opcode byte alone. -/
def decodeOpcode (op b1 b2 : Byte) : Option Instr :=
  let lo := op.toNat % 16
  let w := addrOf b2 b1
  match op.toNat / 16 with
  | 0x0 => decodeRow0 lo b1 w
  | 0x1 => decodeRow1 lo b1 w
  | 0x2 => decodeRow2 lo b1 w
  | 0x3 => decodeRow3 lo b1 w
  | 0x4 => decodeRow4 lo b1 w
  | 0x5 => decodeRow5 lo b1 w
  | 0x6 => decodeRow6 lo b1 w
  | 0x7 => decodeRow7 lo b1 w
  | 0x8 => decodeRow8 lo b1 w
  | 0x9 => decodeRow9 lo b1 w
  | 0xA => decodeRowA lo b1 w
  | 0xB => decodeRowB lo b1 w
  | 0xC => decodeRowC lo b1 w
  | 0xD => decodeRowD lo b1 w
  | 0xE => decodeRowE lo b1 w
  | 0xF => decodeRowF lo b1 w
  | _ => none

/-- Why a list of bytes is no instruction. -/
inductive DecodeError where
  /-- The opcode byte has no descriptor (30_encoding.md R95). -/
  | illegalOpcode (op : Byte)
  /-- The list ends before the operand bytes that the opcode asks for. -/
  | truncated (op : Byte)
  /-- There is no opcode byte. -/
  | noBytes
deriving DecidableEq, Repr

/-- The instruction at the head of a list of bytes, with the bytes after it (30_encoding.md R90, R94). -/
def decode : List Byte → Except DecodeError (Instr × List Byte)
  | [] => .error .noBytes
  | op :: rest =>
    match decodeOpcode op (rest.getD 0 0) (rest.getD 1 0) with
    | none => .error (.illegalOpcode op)
    | some i =>
      if rest.length + 1 < i.length then .error (.truncated op)
      else .ok (i, rest.drop (i.length - 1))

/-- The opcode byte and the base cycle count of an instruction: `opcode/cycles` of the per-mnemonic table of
30_encoding.md R97. -/
def Instr.row : Instr → Byte × Nat
  | .ldaImm _ => (0xA9, 2)
  | .ldaZp _ => (0xA5, 3)
  | .ldaZpX _ => (0xB5, 4)
  | .ldaAbs _ => (0xAD, 4)
  | .ldaAbsX _ => (0xBD, 4)
  | .ldaAbsY _ => (0xB9, 4)
  | .ldaIndX _ => (0xA1, 6)
  | .ldaIndY _ => (0xB1, 5)
  | .ldxImm _ => (0xA2, 2)
  | .ldxZp _ => (0xA6, 3)
  | .ldxZpY _ => (0xB6, 4)
  | .ldxAbs _ => (0xAE, 4)
  | .ldxAbsY _ => (0xBE, 4)
  | .ldyImm _ => (0xA0, 2)
  | .ldyZp _ => (0xA4, 3)
  | .ldyZpX _ => (0xB4, 4)
  | .ldyAbs _ => (0xAC, 4)
  | .ldyAbsX _ => (0xBC, 4)
  | .staZp _ => (0x85, 3)
  | .staZpX _ => (0x95, 4)
  | .staAbs _ => (0x8D, 4)
  | .staAbsX _ => (0x9D, 5)
  | .staAbsY _ => (0x99, 5)
  | .staIndX _ => (0x81, 6)
  | .staIndY _ => (0x91, 6)
  | .stxZp _ => (0x86, 3)
  | .stxZpY _ => (0x96, 4)
  | .stxAbs _ => (0x8E, 4)
  | .styZp _ => (0x84, 3)
  | .styZpX _ => (0x94, 4)
  | .styAbs _ => (0x8C, 4)
  | .tax => (0xAA, 2)
  | .tay => (0xA8, 2)
  | .txa => (0x8A, 2)
  | .tya => (0x98, 2)
  | .tsx => (0xBA, 2)
  | .txs => (0x9A, 2)
  | .pha => (0x48, 3)
  | .php => (0x08, 3)
  | .pla => (0x68, 4)
  | .plp => (0x28, 4)
  | .adcImm _ => (0x69, 2)
  | .adcZp _ => (0x65, 3)
  | .adcZpX _ => (0x75, 4)
  | .adcAbs _ => (0x6D, 4)
  | .adcAbsX _ => (0x7D, 4)
  | .adcAbsY _ => (0x79, 4)
  | .adcIndX _ => (0x61, 6)
  | .adcIndY _ => (0x71, 5)
  | .sbcImm _ => (0xE9, 2)
  | .sbcZp _ => (0xE5, 3)
  | .sbcZpX _ => (0xF5, 4)
  | .sbcAbs _ => (0xED, 4)
  | .sbcAbsX _ => (0xFD, 4)
  | .sbcAbsY _ => (0xF9, 4)
  | .sbcIndX _ => (0xE1, 6)
  | .sbcIndY _ => (0xF1, 5)
  | .cmpImm _ => (0xC9, 2)
  | .cmpZp _ => (0xC5, 3)
  | .cmpZpX _ => (0xD5, 4)
  | .cmpAbs _ => (0xCD, 4)
  | .cmpAbsX _ => (0xDD, 4)
  | .cmpAbsY _ => (0xD9, 4)
  | .cmpIndX _ => (0xC1, 6)
  | .cmpIndY _ => (0xD1, 5)
  | .cpxImm _ => (0xE0, 2)
  | .cpxZp _ => (0xE4, 3)
  | .cpxAbs _ => (0xEC, 4)
  | .cpyImm _ => (0xC0, 2)
  | .cpyZp _ => (0xC4, 3)
  | .cpyAbs _ => (0xCC, 4)
  | .incZp _ => (0xE6, 5)
  | .incZpX _ => (0xF6, 6)
  | .incAbs _ => (0xEE, 6)
  | .incAbsX _ => (0xFE, 7)
  | .decZp _ => (0xC6, 5)
  | .decZpX _ => (0xD6, 6)
  | .decAbs _ => (0xCE, 6)
  | .decAbsX _ => (0xDE, 7)
  | .inx => (0xE8, 2)
  | .iny => (0xC8, 2)
  | .dex => (0xCA, 2)
  | .dey => (0x88, 2)
  | .andImm _ => (0x29, 2)
  | .andZp _ => (0x25, 3)
  | .andZpX _ => (0x35, 4)
  | .andAbs _ => (0x2D, 4)
  | .andAbsX _ => (0x3D, 4)
  | .andAbsY _ => (0x39, 4)
  | .andIndX _ => (0x21, 6)
  | .andIndY _ => (0x31, 5)
  | .oraImm _ => (0x09, 2)
  | .oraZp _ => (0x05, 3)
  | .oraZpX _ => (0x15, 4)
  | .oraAbs _ => (0x0D, 4)
  | .oraAbsX _ => (0x1D, 4)
  | .oraAbsY _ => (0x19, 4)
  | .oraIndX _ => (0x01, 6)
  | .oraIndY _ => (0x11, 5)
  | .eorImm _ => (0x49, 2)
  | .eorZp _ => (0x45, 3)
  | .eorZpX _ => (0x55, 4)
  | .eorAbs _ => (0x4D, 4)
  | .eorAbsX _ => (0x5D, 4)
  | .eorAbsY _ => (0x59, 4)
  | .eorIndX _ => (0x41, 6)
  | .eorIndY _ => (0x51, 5)
  | .bitZp _ => (0x24, 3)
  | .bitAbs _ => (0x2C, 4)
  | .aslAcc => (0x0A, 2)
  | .aslZp _ => (0x06, 5)
  | .aslZpX _ => (0x16, 6)
  | .aslAbs _ => (0x0E, 6)
  | .aslAbsX _ => (0x1E, 7)
  | .lsrAcc => (0x4A, 2)
  | .lsrZp _ => (0x46, 5)
  | .lsrZpX _ => (0x56, 6)
  | .lsrAbs _ => (0x4E, 6)
  | .lsrAbsX _ => (0x5E, 7)
  | .rolAcc => (0x2A, 2)
  | .rolZp _ => (0x26, 5)
  | .rolZpX _ => (0x36, 6)
  | .rolAbs _ => (0x2E, 6)
  | .rolAbsX _ => (0x3E, 7)
  | .rorAcc => (0x6A, 2)
  | .rorZp _ => (0x66, 5)
  | .rorZpX _ => (0x76, 6)
  | .rorAbs _ => (0x6E, 6)
  | .rorAbsX _ => (0x7E, 7)
  | .bpl _ => (0x10, 2)
  | .bmi _ => (0x30, 2)
  | .bvc _ => (0x50, 2)
  | .bvs _ => (0x70, 2)
  | .bcc _ => (0x90, 2)
  | .bcs _ => (0xB0, 2)
  | .bne _ => (0xD0, 2)
  | .beq _ => (0xF0, 2)
  | .jmpAbs _ => (0x4C, 3)
  | .jmpInd _ => (0x6C, 5)
  | .jsr _ => (0x20, 6)
  | .rts => (0x60, 6)
  | .brk => (0x00, 7)
  | .rti => (0x40, 6)
  | .clc => (0x18, 2)
  | .sec => (0x38, 2)
  | .cli => (0x58, 2)
  | .sei => (0x78, 2)
  | .clv => (0xB8, 2)
  | .cld => (0xD8, 2)
  | .sed => (0xF8, 2)
  | .nop => (0xEA, 2)

/-- The opcode byte of an instruction (30_encoding.md R97). -/
def Instr.opcode (i : Instr) : Byte := i.row.1

/-- The base cycle count of an instruction's descriptor (30_encoding.md R97). -/
def Instr.baseCycles (i : Instr) : Nat := i.row.2

/-- The two bytes of a little-endian operand, low byte first (30_encoding.md R99, 20_memory.md R64). -/
def wordBytes (w : Addr) : List Byte := [loByte w, hiByte w]

/-- The operand bytes of an instruction in fetch order (30_encoding.md R91, R99). -/
def Instr.operandBytes : Instr → List Byte
  | .ldaImm v | .ldxImm v | .ldyImm v | .adcImm v | .sbcImm v | .cmpImm v | .cpxImm v | .cpyImm v | .andImm v
  | .oraImm v | .eorImm v => [v]
  | .ldaZp a | .ldaZpX a | .ldaIndX a | .ldaIndY a | .ldxZp a | .ldxZpY a | .ldyZp a | .ldyZpX a | .staZp a
  | .staZpX a | .staIndX a | .staIndY a | .stxZp a | .stxZpY a | .styZp a | .styZpX a | .adcZp a | .adcZpX a
  | .adcIndX a | .adcIndY a | .sbcZp a | .sbcZpX a | .sbcIndX a | .sbcIndY a | .cmpZp a | .cmpZpX a | .cmpIndX a
  | .cmpIndY a | .cpxZp a | .cpyZp a | .incZp a | .incZpX a | .decZp a | .decZpX a | .andZp a | .andZpX a
  | .andIndX a | .andIndY a | .oraZp a | .oraZpX a | .oraIndX a | .oraIndY a | .eorZp a | .eorZpX a | .eorIndX a
  | .eorIndY a | .bitZp a | .aslZp a | .aslZpX a | .lsrZp a | .lsrZpX a | .rolZp a | .rolZpX a | .rorZp a
  | .rorZpX a => [a]
  | .bpl off | .bmi off | .bvc off | .bvs off | .bcc off | .bcs off | .bne off | .beq off => [off]
  | .ldaAbs w | .ldaAbsX w | .ldaAbsY w | .ldxAbs w | .ldxAbsY w | .ldyAbs w | .ldyAbsX w | .staAbs w
  | .staAbsX w | .staAbsY w | .stxAbs w | .styAbs w | .adcAbs w | .adcAbsX w | .adcAbsY w | .sbcAbs w
  | .sbcAbsX w | .sbcAbsY w | .cmpAbs w | .cmpAbsX w | .cmpAbsY w | .cpxAbs w | .cpyAbs w | .incAbs w
  | .incAbsX w | .decAbs w | .decAbsX w | .andAbs w | .andAbsX w | .andAbsY w | .oraAbs w | .oraAbsX w
  | .oraAbsY w | .eorAbs w | .eorAbsX w | .eorAbsY w | .bitAbs w | .aslAbs w | .aslAbsX w | .lsrAbs w
  | .lsrAbsX w | .rolAbs w | .rolAbsX w | .rorAbs w | .rorAbsX w | .jmpAbs w | .jmpInd w | .jsr w => wordBytes w
  | .tax | .tay | .txa | .tya | .tsx | .txs | .pha | .php | .pla | .plp | .inx | .iny | .dex | .dey | .aslAcc
  | .lsrAcc | .rolAcc | .rorAcc | .rts | .brk | .rti | .clc | .sec | .cli | .sei | .clv | .cld | .sed | .nop => []

/-- The bytes of an instruction: the opcode byte, then its operand bytes (30_encoding.md R90). -/
def encode (i : Instr) : List Byte := i.opcode :: i.operandBytes

/-- The `n`-th byte of a word numbered as spec/opcode_table.json numbers it, the first byte in bits 7..0. -/
def byteOfWord (w n : Nat) : Byte := BitVec.ofNat 8 (w / 256 ^ n)

/-- The first three bytes, the longest instruction (30_encoding.md R94), of a word whose bits above `nbits` are 0. -/
def bytesOfWord (nbits w : Nat) : List Byte :=
  let v := w % 2 ^ nbits
  [byteOfWord v 0, byteOfWord v 1, byteOfWord v 2]

/-- The instruction that `decode` reads from the bytes of a table word. -/
def decodeTableWord (nbits w : Nat) : Option Instr :=
  match decode (bytesOfWord nbits w) with
  | .ok (i, _) => some i
  | .error _ => none

end Sys2Proof
end

