-- ==== Sys2Proof/Machine/Memory.lean ====
section
/-!
DEFINITION. Memory: the one address space of 65,536 byte cells (20_memory.md R60), held as a list of (address, byte)
pairs in one canonical form: addresses strictly rising and below 65,536, and no entry equal to what an unlisted address
reads as.
-/

namespace Sys2Proof.Machine

/-- The cells that differ from the created memory, in rising order of address. -/
abbrev Memory := List Host.Cell

/-- MEM_SIZE of 00_scope.md R7. -/
def memSize : Nat := 65536

/-- What an unlisted cell holds: memory is "created zero-filled or loaded from an external image" (20_memory.md R73). -/
def unlisted : Byte := 0x00

/-- The memory as created, before any image is loaded (20_memory.md R73). -/
def Memory.zeroFilled : Memory := []

/-- The byte of a cell; a read always succeeds (20_memory.md R61). -/
def Memory.read : Memory → Nat → Byte
  | [], _ => unlisted
  | (k, v) :: rest, a => if k = a then v else Memory.read rest a

/-- Put an entry in front, unless it says what an unlisted cell reads as anyway. -/
def Memory.cons (a : Nat) (v : Byte) (rest : Memory) : Memory :=
  if v = unlisted then rest else (a, v) :: rest

/-- Replace the byte of a cell, no other cell changing (20_memory.md R62). -/
def Memory.write : Memory → Nat → Byte → Memory
  | [], a, v => Memory.cons a v []
  | (k, w) :: rest, a, v =>
    if k = a then Memory.cons a v rest
    else if a < k then Memory.cons a v ((k, w) :: rest)
    else (k, w) :: Memory.write rest a v

/-- The canonical form, for entries whose addresses are at least `lo`. -/
def Memory.wfFrom (lo : Nat) : Memory → Bool
  | [] => true
  | (k, v) :: rest => decide (lo ≤ k) && decide (k < memSize) && (v != unlisted) && Memory.wfFrom (k + 1) rest

/-- The canonical form: equal memories are equal lists. -/
def Memory.wf (m : Memory) : Bool := Memory.wfFrom 0 m

/-- The memory whose cells from address `n` on hold the given bytes, in order. -/
def Memory.ofBytesFrom (n : Nat) : List Byte → Memory
  | [] => []
  | v :: rest => Memory.cons n v (Memory.ofBytesFrom (n + 1) rest)

/-- The memory of an image, "address 0 first, no header" (20_memory.md R72). -/
def Memory.ofBytes (image : List Byte) : Memory := Memory.ofBytesFrom 0 image

/-- The cells in address order (20_memory.md R72). -/
def Memory.toBytes (m : Memory) : List Byte := (List.range memSize).map (Memory.read m)

end Sys2Proof.Machine
end

