-- ==== Sys2Proof/Machine/State.lean ====
section
/-!
DEFINITION. The state of the core: the tuple (A, X, Y, SP, PC, P, CYC, Mem, Mode) of 10_state.md R30, "Nothing else is
state"; the reasons a step can stop; and the state right after reset.
-/

namespace Sys2Proof.Machine

/-- The faults of a step. 60_exceptions.md R303: "No other fault exists." -/
inductive Fault where
  /-- Raised by `step`, at decode, when the opcode byte at PC has no descriptor (60_exceptions.md R300); it carries the
  address of that byte and the byte. The spec's own fault, "fatal to the current run" (R301): safe. -/
  | illegalInstruction (pc : Addr) (opcode : Byte)
deriving DecidableEq, Repr

/-- Why there is no step, or no meaning. -/
inductive Refusal where
  /-- Raised by an arm of `exec` that has no meaning yet; no arm of this model raises it. Safe. -/
  | notModelled (mnemonic : String)
  /-- Raised by `step` before the first reset: "A model refuses a step there" (41_execution_engine.md R150). Safe. -/
  | unreset
  /-- Raised by `step` after a fault: "the core has no step either" (41_execution_engine.md R150, 60_exceptions.md
  R301). Safe. -/
  | halted
deriving DecidableEq, Repr

/-- The engine mode of 10_state.md R43. -/
inductive Mode where
  /-- Before the first `reset()`. -/
  | unreset
  /-- Stepping. -/
  | running
  /-- Stopped for good by the fault it records (60_exceptions.md R300, R301). -/
  | halted (info : Fault)
deriving DecidableEq, Repr

/-- The state of the core (10_state.md R30). In mode `unreset` the registers hold no value in the spec (R43); nothing
reads these fields then (log entry 2). -/
structure State where
  /-- A, the accumulator (10_state.md R32). -/
  a : Byte
  /-- X, an index register (10_state.md R33). -/
  x : Byte
  /-- Y, an index register (10_state.md R34). -/
  y : Byte
  /-- SP, the stack pointer, an offset into page 1 (10_state.md R35). -/
  sp : Byte
  /-- PC; between steps the address of the next opcode byte (10_state.md R36). -/
  pc : Addr
  /-- P, the status register N V 1 B D I Z C (10_state.md R37). -/
  p : Byte
  /-- CYC, the elapsed-cycle counter, which never wraps (10_state.md R42). -/
  cyc : Nat
  /-- Mem, the 65,536 cells (20_memory.md R60). -/
  mem : Memory
  /-- Mode, the engine mode (10_state.md R43). -/
  mode : Mode
deriving DecidableEq, Repr

/-- The state after `reset()` with the default parameters (10_state.md R46) and memory as created (20_memory.md R73);
PC is what the zero-filled reset vector holds (70_reset_and_hazards.md R333). Log entries 3 and 5. -/
def State.reset : State :=
  { a := 0x00, x := 0x00, y := 0x00, sp := 0xFF, pc := 0x0000, p := 0x24, cyc := 7, mem := [], mode := .running }

end Sys2Proof.Machine
end

