-- ==== Sys2Proof/Machine/Flags.lean ====
section
/-!
DEFINITION. The status register's bits (10_state.md R37) and every flag computation the spec gives: N and Z (R40),
the status byte as pushed and as pulled (R37, R38), add and subtract with carry in binary and decimal mode
(44_arithmetic.md R210 to R213), compare (R214), bit test (45_logic_shift.md R243), shifts and rotates (R244 to R247).
Functions here work on bytes: an operation takes P and gives a result with the P after it.
-/

namespace Sys2Proof.Machine

/-- The bits of P, `one` being bit 5 (10_state.md R37). -/
inductive Flag where
  | n | v | one | b | d | i | z | c
deriving DecidableEq, Repr

/-- The bit of P that a flag stands at (10_state.md R37). -/
def flagBit : Flag → Nat
  | .n => 7
  | .v => 6
  | .one => 5
  | .b => 4
  | .d => 3
  | .i => 2
  | .z => 1
  | .c => 0

/-- `P.f`. -/
def flagOf (p : Byte) (f : Flag) : Bool := p.getLsbD (flagBit f)

/-- The byte with only a flag's bit set. -/
def flagMask (f : Flag) : Byte := 1#8 <<< flagBit f

/-- `P.f <- on`. -/
def putFlag (p : Byte) (f : Flag) (on : Bool) : Byte :=
  if on then p ||| flagMask f else p &&& ~~~(flagMask f)

/-- `SetNZ(v)` of 10_state.md R40. -/
def setNZ (p v : Byte) : Byte := putFlag (putFlag p .z (v == 0)) .n (v.getLsbD 7)

/-- A whole byte written to P by reset, PLP or RTI: bit 4 stored as 0 and bit 5 as 1 (10_state.md R37, R38). -/
def storedStatus (v : Byte) : Byte := (v &&& 0xCF) ||| 0x20

/-- The copy of P that PHP and BRK push, with B = 1 and bit 5 = 1 (43_stack.md R201, 46_control.md R274). -/
def pushedStatus (p : Byte) : Byte := p ||| 0x30

/-- The carry flag as the number 0 or 1. -/
def carryIn (p : Byte) : Nat := (flagOf p .c).toNat

/-- ADC in binary mode (44_arithmetic.md R210): the result and P. -/
def adcBinary (a m p : Byte) : Byte × Byte :=
  let s := a.toNat + m.toNat + carryIn p
  let r := BitVec.ofNat 8 s
  let overflow := (~~~(a ^^^ m) &&& (a ^^^ r)).getLsbD 7
  (r, setNZ (putFlag (putFlag p .c (decide (s > 0xFF))) .v overflow) r)

/-- ADC in decimal mode (44_arithmetic.md R211): the result and P. -/
def adcDecimal (a m p : Byte) : Byte × Byte :=
  let al0 := (a &&& 0x0F).toNat + (m &&& 0x0F).toNat + carryIn p
  let al := if al0 ≥ 0x0A then (al0 + 0x06) % 16 + 0x10 else al0
  let s1 := (a &&& 0xF0).toNat + (m &&& 0xF0).toNat + al
  let s2 : Int := (a &&& 0xF0).toInt + (m &&& 0xF0).toInt + al
  let sum := if s1 ≥ 0xA0 then s1 + 0x60 else s1
  let negative := (BitVec.ofInt 8 s2).getLsbD 7
  let overflow := decide (s2 < -128 ∨ s2 > 127)
  let zero := BitVec.ofNat 8 (a.toNat + m.toNat + carryIn p) == 0
  (BitVec.ofNat 8 sum,
    putFlag (putFlag (putFlag (putFlag p .n negative) .v overflow) .c (decide (sum ≥ 0x100))) .z zero)

/-- ADC, binary or decimal by the D flag (44_arithmetic.md R210, R211). -/
def adc (a m p : Byte) : Byte × Byte := if flagOf p .d then adcDecimal a m p else adcBinary a m p

/-- The exact difference `a - M - (1 - c)` of 44_arithmetic.md R212. -/
def sbcDifference (a m p : Byte) : Int := (a.toNat : Int) - m.toNat - (1 - carryIn p)

/-- The flags of SBC, the same in both modes (44_arithmetic.md R212). -/
def sbcFlags (a m p : Byte) : Byte :=
  let d := sbcDifference a m p
  let r := BitVec.ofInt 8 d
  let overflow := ((a ^^^ m) &&& (a ^^^ r)).getLsbD 7
  setNZ (putFlag (putFlag p .c (decide (d ≥ 0))) .v overflow) r

/-- The accumulator result of SBC in decimal mode (44_arithmetic.md R213). -/
def sbcDecimalResult (a m p : Byte) : Byte :=
  let al0 : Int := ((a &&& 0x0F).toNat : Int) - (m &&& 0x0F).toNat + carryIn p - 1
  let al : Int := if al0 < 0 then (al0 - 0x06) % 16 - 0x10 else al0
  let s : Int := ((a &&& 0xF0).toNat : Int) - (m &&& 0xF0).toNat + al
  BitVec.ofInt 8 (if s < 0 then s - 0x60 else s)

/-- SBC, binary or decimal by the D flag (44_arithmetic.md R212, R213): the result and P. -/
def sbc (a m p : Byte) : Byte × Byte :=
  (if flagOf p .d then sbcDecimalResult a m p else BitVec.ofInt 8 (sbcDifference a m p), sbcFlags a m p)

/-- `Compare(r, M)` of 44_arithmetic.md R214: the P after it. -/
def compareFlags (r m p : Byte) : Byte :=
  let d : Int := (r.toNat : Int) - m.toNat
  setNZ (putFlag p .c (decide (d ≥ 0))) (BitVec.ofInt 8 d)

/-- The flags of BIT (45_logic_shift.md R243). -/
def bitFlags (a m p : Byte) : Byte :=
  putFlag (putFlag (putFlag p .z (a &&& m == 0)) .n (m.getLsbD 7)) .v (m.getLsbD 6)

/-- INC (44_arithmetic.md R218): the result and P. -/
def incByte (v p : Byte) : Byte × Byte := let r := v + 1; (r, setNZ p r)

/-- DEC (44_arithmetic.md R219): the result and P. -/
def decByte (v p : Byte) : Byte × Byte := let r := v - 1; (r, setNZ p r)

/-- ASL (45_logic_shift.md R244): the result and P. -/
def aslByte (v p : Byte) : Byte × Byte :=
  let r := v <<< 1
  (r, setNZ (putFlag p .c (v.getLsbD 7)) r)

/-- LSR (45_logic_shift.md R245): the result and P. -/
def lsrByte (v p : Byte) : Byte × Byte :=
  let r := v >>> 1
  (r, setNZ (putFlag p .c (v.getLsbD 0)) r)

/-- ROL (45_logic_shift.md R246): the result and P. -/
def rolByte (v p : Byte) : Byte × Byte :=
  let r := (v <<< 1) ||| BitVec.ofNat 8 (carryIn p)
  (r, setNZ (putFlag p .c (v.getLsbD 7)) r)

/-- ROR (45_logic_shift.md R247): the result and P. -/
def rorByte (v p : Byte) : Byte × Byte :=
  let r := (v >>> 1) ||| (BitVec.ofNat 8 (carryIn p) <<< 7)
  (r, setNZ (putFlag p .c (v.getLsbD 0)) r)

end Sys2Proof.Machine
end

