-- ==== Sys2Proof/Machine/Ops.lean ====
section
/-!
DEFINITION. The named operations over memory and registers: memory access (20_memory.md R61, R62, R64), the stack
primitives (R65 to R67), register access by name, SetNZ on the state (10_state.md R40), the end of an instruction (PC
past its bytes, its cycles charged), the BRK trap and the return from it (60_exceptions.md R302, R307), the halt of an
Illegal-Instruction fault (R300), and `reset()` (70_reset_and_hazards.md R330).
-/

namespace Sys2Proof.Machine

/-- A step that goes on. -/
abbrev Outcome := Host.Outcome State Fault Refusal

/-- `MemRead(addr, 1)` (20_memory.md R61). -/
def State.read (s : State) (addr : Addr) : Byte := Memory.read s.mem addr.toNat

/-- `MemWrite(addr, 1, v)` (20_memory.md R62). -/
def State.write (s : State) (addr : Addr) (v : Byte) : State := { s with mem := Memory.write s.mem addr.toNat v }

/-- `MemRead16(addr)`, low byte first (00_scope.md R10, 20_memory.md R64). -/
def State.read16 (s : State) (addr : Addr) : Addr := addrOf (s.read (addr + 1)) (s.read addr)

/-- The high byte of every stack address (STACK_PAGE of 00_scope.md R7). -/
def stackPage : Byte := 0x01

/-- RESET_VECTOR of 00_scope.md R7. -/
def resetVector : Addr := 0xFFFC

/-- BRK_VECTOR of 00_scope.md R7. -/
def brkVector : Addr := 0xFFFE

/-- The stack address that SP names, `0x0100 + SP` (20_memory.md R65). -/
def stackAddr (sp : Byte) : Addr := addrOf stackPage sp

/-- `Push(v)`: write, then decrement within the page (20_memory.md R66). -/
def State.push (s : State) (v : Byte) : State := { s.write (stackAddr s.sp) v with sp := s.sp - 1 }

/-- `Pull()`: increment within the page, then read (20_memory.md R67). -/
def State.pull (s : State) : Byte × State := (s.read (stackAddr (s.sp + 1)), { s with sp := s.sp + 1 })

/-- Push a 16-bit value, high byte first, so that the low byte lies at the lower address (20_memory.md R64). -/
def State.push16 (s : State) (w : Addr) : State := (s.push (hiByte w)).push (loByte w)

/-- Pull a 16-bit value, low byte first. -/
def State.pull16 (s : State) : Addr × State :=
  let (lo, s1) := s.pull
  let (hi, s2) := s1.pull
  (addrOf hi lo, s2)

/-- The 8-bit registers an instruction names (10_state.md R32 to R35). -/
inductive Reg where
  | a | x | y | sp
deriving DecidableEq, Repr

/-- Read a register. -/
def State.get (s : State) : Reg → Byte
  | .a => s.a
  | .x => s.x
  | .y => s.y
  | .sp => s.sp

/-- Write a register. -/
def State.set (s : State) (r : Reg) (v : Byte) : State :=
  match r with
  | .a => { s with a := v }
  | .x => { s with x := v }
  | .y => { s with y := v }
  | .sp => { s with sp := v }

/-- `P.f`. -/
def State.flag (s : State) (f : Flag) : Bool := flagOf s.p f

/-- `P.f <- on`. -/
def State.putFlag (s : State) (f : Flag) (on : Bool) : State := { s with p := Machine.putFlag s.p f on }

/-- `SetNZ(v)` (10_state.md R40). -/
def State.setNZ (s : State) (v : Byte) : State := { s with p := Machine.setNZ s.p v }

/-- `P <- v` for a whole byte (10_state.md R37, R38). -/
def State.setStatus (s : State) (v : Byte) : State := { s with p := storedStatus v }

/-- The end of an instruction that transfers no control: PC is past its `length` bytes (10_state.md R36) and CYC has
grown by `cycles` (41_execution_engine.md R153). -/
def State.retire (s : State) (length cycles : Nat) : State :=
  { s with pc := s.pc + BitVec.ofNat 16 length, cyc := s.cyc + cycles }

/-- The end of an instruction that transfers control to `target`. -/
def State.jump (s : State) (target : Addr) (cycles : Nat) : State := { s with pc := target, cyc := s.cyc + cycles }

/-- Trap entry of 60_exceptions.md R302 (46_control.md R274): the return address and the status with B = 1 are pushed,
I is set, and PC is read from the BRK vector after the pushes. -/
def State.enterTrap (s : State) (ret : Addr) (cycles : Nat) : State :=
  let s1 := (s.push16 ret).push (pushedStatus s.p)
  let s2 := s1.putFlag .i true
  s2.jump (s2.read16 brkVector) cycles

/-- Trap return of 60_exceptions.md R307 (46_control.md R275): P, then PC, from the stack. -/
def State.leaveTrap (s : State) (cycles : Nat) : State :=
  let (v, s1) := s.pull
  let (ret, s2) := (s1.setStatus v).pull16
  s2.jump ret cycles

/-- What an Illegal-Instruction fault does to the state: "The only state change is Mode" (60_exceptions.md R300). -/
def State.halt (s : State) (f : Fault) : State := { s with mode := .halted f }

/-- PC after reset (70_reset_and_hazards.md R330). -/
def State.resetPc (s : State) : ResetPcSource → Addr
  | .vector => s.read16 resetVector
  | .fixed a => a

/-- `reset()`, enabled in every Mode (70_reset_and_hazards.md R330, R331). -/
def State.resetOp (s : State) (cfg : Config) : State :=
  { a := 0x00, x := 0x00, y := 0x00, sp := 0xFF, p := storedStatus cfg.resetP, pc := s.resetPc cfg.resetPcSource,
    cyc := 7, mem := s.mem, mode := .running }

end Sys2Proof.Machine
end

