-- ==== Sys2Proof/Machine/Operands.lean ====
section
/-!
DEFINITION. The addressing-mode resolver (40_addressing_modes.md): the effective address and the page-crossed bit of
every mode, and the operand access functions Operand() and WriteBack() (R135, R136). An operand carries the operand
bytes of the decoded instruction (log entry 6). Each form of operand admits only the modes that some instruction uses
it with, so that Operand() and WriteBack() are defined on every one (R137).
-/

namespace Sys2Proof.Machine

/-- The modes whose result is the effective address of a memory operand. -/
inductive MemOperand where
  | zp (a : Byte)
  | zpX (a : Byte)
  | zpY (a : Byte)
  | abs (w : Addr)
  | absX (w : Addr)
  | absY (w : Addr)
  | indX (a : Byte)
  | indY (a : Byte)
deriving DecidableEq, Repr

/-- `Address(ea, crossed)` of 40_addressing_modes.md R120. -/
structure Resolved where
  ea : Addr
  crossed : Bool
deriving DecidableEq, Repr

/-- A page crossing between two addresses (40_addressing_modes.md R130). -/
def pageCrossed (base ea : Addr) : Bool := hiByte base != hiByte ea

/-- An indexed address and whether the addition crosses a page (40_addressing_modes.md R127, R134). -/
def indexed (base : Addr) (idx : Byte) : Resolved :=
  let ea := base + zext idx
  ⟨ea, pageCrossed base ea⟩

/-- `ZPtr(p)`: a pointer in page 0, its second byte wrapping within page 0 (40_addressing_modes.md R133). -/
def State.zeroPagePointer (s : State) (p : Byte) : Addr := addrOf (s.read (zext (p + 1))) (s.read (zext p))

/-- `Resolve(mode)` for a memory operand (40_addressing_modes.md R124 to R128, R132, R134). -/
def MemOperand.resolve (o : MemOperand) (s : State) : Resolved :=
  match o with
  | .zp a => ⟨zext a, false⟩
  | .zpX a => ⟨zext (a + s.x), false⟩
  | .zpY a => ⟨zext (a + s.y), false⟩
  | .abs w => ⟨w, false⟩
  | .absX w => indexed w s.x
  | .absY w => indexed w s.y
  | .indX a => ⟨s.zeroPagePointer (a + s.x), false⟩
  | .indY a => indexed (s.zeroPagePointer a) s.y

/-- The effective address of a memory operand. -/
def MemOperand.ea (o : MemOperand) (s : State) : Addr := (o.resolve s).ea

/-- The page-crossed bit of a memory operand. -/
def MemOperand.crossed (o : MemOperand) (s : State) : Bool := (o.resolve s).crossed

/-- The byte length of an instruction with this operand (30_encoding.md R91). -/
def MemOperand.length : MemOperand → Nat
  | .zp _ | .zpX _ | .zpY _ | .indX _ | .indY _ => 2
  | .abs _ | .absX _ | .absY _ => 3

/-- What an instruction that only reads its operand takes: an immediate (R123) or a memory operand. -/
inductive ReadOperand where
  | imm (v : Byte)
  | mem (o : MemOperand)
deriving DecidableEq, Repr

/-- `Operand()` (40_addressing_modes.md R135). -/
def ReadOperand.value (o : ReadOperand) (s : State) : Byte :=
  match o with
  | .imm v => v
  | .mem m => s.read (m.ea s)

/-- The byte length of an instruction with this operand (30_encoding.md R91). -/
def ReadOperand.length : ReadOperand → Nat
  | .imm _ => 2
  | .mem m => m.length

/-- `page_penalty` of a read-class instruction (41_execution_engine.md R153); only abs,X, abs,Y and (zp),Y cross. -/
def ReadOperand.penalty (o : ReadOperand) (s : State) : Nat :=
  match o with
  | .imm _ => 0
  | .mem m => (m.crossed s).toNat

/-- What a shift or a rotate works on: A (accumulator mode, R122) or a memory operand. -/
inductive RmwOperand where
  | acc
  | mem (o : MemOperand)
deriving DecidableEq, Repr

/-- `Operand()` (40_addressing_modes.md R135). -/
def RmwOperand.value (o : RmwOperand) (s : State) : Byte :=
  match o with
  | .acc => s.a
  | .mem m => s.read (m.ea s)

/-- `WriteBack(r)` (40_addressing_modes.md R136). -/
def RmwOperand.writeBack (o : RmwOperand) (s : State) (r : Byte) : State :=
  match o with
  | .acc => { s with a := r }
  | .mem m => s.write (m.ea s) r

/-- The byte length of an instruction with this operand (30_encoding.md R91). -/
def RmwOperand.length : RmwOperand → Nat
  | .acc => 1
  | .mem m => m.length

/-- The target of indirect mode: the pointer's high byte is read from the pointer's own page (40_addressing_modes.md
R129). -/
def State.indirectTarget (s : State) (ptr : Addr) : Addr :=
  addrOf (s.read (addrOf (hiByte ptr) (loByte ptr + 1))) (s.read ptr)

/-- The target of relative mode, from the address following the branch (40_addressing_modes.md R131). -/
def relative (next : Addr) (off : Byte) : Resolved :=
  let target := next + sext off
  ⟨target, pageCrossed next target⟩

end Sys2Proof.Machine
end

