-- ==== Sys2Proof/Machine/Alu.lean ====
section
/-!
DEFINITION. The instruction shapes that several families share: a result that goes to a register with N and Z set from
it, an operation on A and a read operand, and a read-modify-write. Each ends the instruction: PC past its bytes, its
cycles charged.
-/

namespace Sys2Proof.Machine

/-- A result byte written to a register, with N and Z set from it (10_state.md R40). -/
def State.setResult (s : State) (r : Reg) (v : Byte) : State := (s.set r v).setNZ v

/-- A and P from an operation on A, a read operand and P, all read before any write; read-class cycles
(41_execution_engine.md R153). -/
def State.accumulate (s : State) (f : Byte → Byte → Byte → Byte × Byte) (o : ReadOperand) (cycles : Nat) : State :=
  let res := f s.a (o.value s) s.p
  { s with a := res.1, p := res.2 }.retire o.length (cycles + o.penalty s)

/-- A result and P from an operation on one operand and P, the result written back where the operand came from
(40_addressing_modes.md R136); fixed cycles (30_encoding.md R98). -/
def State.modify (s : State) (f : Byte → Byte → Byte × Byte) (o : RmwOperand) (cycles : Nat) : State :=
  let res := f (o.value s) s.p
  { o.writeBack s res.1 with p := res.2 }.retire o.length cycles

end Sys2Proof.Machine
end

