-- ==== Sys2Proof/Machine/Arithmetic.lean ====
section
/-!
DEFINITION. Arithmetic, compares, increments and decrements (44_arithmetic.md R210 to R224).
-/

namespace Sys2Proof.Machine

/-- A compare: flags only (44_arithmetic.md R214); CPX and CPY have no mode that crosses a page (R216, R217). -/
def State.compare (s : State) (r : Reg) (o : ReadOperand) (cycles : Nat) : State :=
  { s with p := compareFlags (s.get r) (o.value s) s.p }.retire o.length (cycles + o.penalty s)

/-- `ADC #v` (R210), 2 cycles. -/
def execAdcImm (v : Byte) (s : State) : Outcome := .next (s.accumulate adc (.imm v) 2)

/-- `ADC a` (R210), 3 cycles. -/
def execAdcZp (a : Byte) (s : State) : Outcome := .next (s.accumulate adc (.mem (.zp a)) 3)

/-- `ADC a,X` (R210), 4 cycles. -/
def execAdcZpX (a : Byte) (s : State) : Outcome := .next (s.accumulate adc (.mem (.zpX a)) 4)

/-- `ADC w` (R210), 4 cycles. -/
def execAdcAbs (w : Addr) (s : State) : Outcome := .next (s.accumulate adc (.mem (.abs w)) 4)

/-- `ADC w,X` (R210), 4 cycles, one more when the address crosses a page. -/
def execAdcAbsX (w : Addr) (s : State) : Outcome := .next (s.accumulate adc (.mem (.absX w)) 4)

/-- `ADC w,Y` (R210), 4 cycles, one more when the address crosses a page. -/
def execAdcAbsY (w : Addr) (s : State) : Outcome := .next (s.accumulate adc (.mem (.absY w)) 4)

/-- `ADC (a,X)` (R210), 6 cycles. -/
def execAdcIndX (a : Byte) (s : State) : Outcome := .next (s.accumulate adc (.mem (.indX a)) 6)

/-- `ADC (a),Y` (R210), 5 cycles, one more when the address crosses a page. -/
def execAdcIndY (a : Byte) (s : State) : Outcome := .next (s.accumulate adc (.mem (.indY a)) 5)

/-- `SBC #v` (R212), 2 cycles. -/
def execSbcImm (v : Byte) (s : State) : Outcome := .next (s.accumulate sbc (.imm v) 2)

/-- `SBC a` (R212), 3 cycles. -/
def execSbcZp (a : Byte) (s : State) : Outcome := .next (s.accumulate sbc (.mem (.zp a)) 3)

/-- `SBC a,X` (R212), 4 cycles. -/
def execSbcZpX (a : Byte) (s : State) : Outcome := .next (s.accumulate sbc (.mem (.zpX a)) 4)

/-- `SBC w` (R212), 4 cycles. -/
def execSbcAbs (w : Addr) (s : State) : Outcome := .next (s.accumulate sbc (.mem (.abs w)) 4)

/-- `SBC w,X` (R212), 4 cycles, one more when the address crosses a page. -/
def execSbcAbsX (w : Addr) (s : State) : Outcome := .next (s.accumulate sbc (.mem (.absX w)) 4)

/-- `SBC w,Y` (R212), 4 cycles, one more when the address crosses a page. -/
def execSbcAbsY (w : Addr) (s : State) : Outcome := .next (s.accumulate sbc (.mem (.absY w)) 4)

/-- `SBC (a,X)` (R212), 6 cycles. -/
def execSbcIndX (a : Byte) (s : State) : Outcome := .next (s.accumulate sbc (.mem (.indX a)) 6)

/-- `SBC (a),Y` (R212), 5 cycles, one more when the address crosses a page. -/
def execSbcIndY (a : Byte) (s : State) : Outcome := .next (s.accumulate sbc (.mem (.indY a)) 5)

/-- `CMP #v` (R215), 2 cycles. -/
def execCmpImm (v : Byte) (s : State) : Outcome := .next (s.compare .a (.imm v) 2)

/-- `CMP a` (R215), 3 cycles. -/
def execCmpZp (a : Byte) (s : State) : Outcome := .next (s.compare .a (.mem (.zp a)) 3)

/-- `CMP a,X` (R215), 4 cycles. -/
def execCmpZpX (a : Byte) (s : State) : Outcome := .next (s.compare .a (.mem (.zpX a)) 4)

/-- `CMP w` (R215), 4 cycles. -/
def execCmpAbs (w : Addr) (s : State) : Outcome := .next (s.compare .a (.mem (.abs w)) 4)

/-- `CMP w,X` (R215), 4 cycles, one more when the address crosses a page. -/
def execCmpAbsX (w : Addr) (s : State) : Outcome := .next (s.compare .a (.mem (.absX w)) 4)

/-- `CMP w,Y` (R215), 4 cycles, one more when the address crosses a page. -/
def execCmpAbsY (w : Addr) (s : State) : Outcome := .next (s.compare .a (.mem (.absY w)) 4)

/-- `CMP (a,X)` (R215), 6 cycles. -/
def execCmpIndX (a : Byte) (s : State) : Outcome := .next (s.compare .a (.mem (.indX a)) 6)

/-- `CMP (a),Y` (R215), 5 cycles, one more when the address crosses a page. -/
def execCmpIndY (a : Byte) (s : State) : Outcome := .next (s.compare .a (.mem (.indY a)) 5)

/-- `CPX #v` (R216), 2 cycles. -/
def execCpxImm (v : Byte) (s : State) : Outcome := .next (s.compare .x (.imm v) 2)

/-- `CPX a` (R216), 3 cycles. -/
def execCpxZp (a : Byte) (s : State) : Outcome := .next (s.compare .x (.mem (.zp a)) 3)

/-- `CPX w` (R216), 4 cycles. -/
def execCpxAbs (w : Addr) (s : State) : Outcome := .next (s.compare .x (.mem (.abs w)) 4)

/-- `CPY #v` (R217), 2 cycles. -/
def execCpyImm (v : Byte) (s : State) : Outcome := .next (s.compare .y (.imm v) 2)

/-- `CPY a` (R217), 3 cycles. -/
def execCpyZp (a : Byte) (s : State) : Outcome := .next (s.compare .y (.mem (.zp a)) 3)

/-- `CPY w` (R217), 4 cycles. -/
def execCpyAbs (w : Addr) (s : State) : Outcome := .next (s.compare .y (.mem (.abs w)) 4)

/-- `INC a` (R218), 5 cycles. -/
def execIncZp (a : Byte) (s : State) : Outcome := .next (s.modify incByte (.mem (.zp a)) 5)

/-- `INC a,X` (R218), 6 cycles. -/
def execIncZpX (a : Byte) (s : State) : Outcome := .next (s.modify incByte (.mem (.zpX a)) 6)

/-- `INC w` (R218), 6 cycles. -/
def execIncAbs (w : Addr) (s : State) : Outcome := .next (s.modify incByte (.mem (.abs w)) 6)

/-- `INC w,X` (R218), 7 cycles. -/
def execIncAbsX (w : Addr) (s : State) : Outcome := .next (s.modify incByte (.mem (.absX w)) 7)

/-- `DEC a` (R219), 5 cycles. -/
def execDecZp (a : Byte) (s : State) : Outcome := .next (s.modify decByte (.mem (.zp a)) 5)

/-- `DEC a,X` (R219), 6 cycles. -/
def execDecZpX (a : Byte) (s : State) : Outcome := .next (s.modify decByte (.mem (.zpX a)) 6)

/-- `DEC w` (R219), 6 cycles. -/
def execDecAbs (w : Addr) (s : State) : Outcome := .next (s.modify decByte (.mem (.abs w)) 6)

/-- `DEC w,X` (R219), 7 cycles. -/
def execDecAbsX (w : Addr) (s : State) : Outcome := .next (s.modify decByte (.mem (.absX w)) 7)

/-- `INX` (R220), 2 cycles. -/
def execInx (s : State) : Outcome := .next ((s.setResult .x (s.x + 1)).retire 1 2)

/-- `INY` (R221), 2 cycles. -/
def execIny (s : State) : Outcome := .next ((s.setResult .y (s.y + 1)).retire 1 2)

/-- `DEX` (R222), 2 cycles. -/
def execDex (s : State) : Outcome := .next ((s.setResult .x (s.x - 1)).retire 1 2)

/-- `DEY` (R223), 2 cycles. -/
def execDey (s : State) : Outcome := .next ((s.setResult .y (s.y - 1)).retire 1 2)

end Sys2Proof.Machine
end

