-- ==== Sys2Proof/Machine/Control.lean ====
section
/-!
DEFINITION. Branches, jumps, subroutines, BRK and RTI (46_control.md R260 to R275).
-/

namespace Sys2Proof.Machine

/-- `Branch(cond)` (R260): not taken, the address following the 2-byte branch; taken, the target, at one cycle more, or
two when the target lies in another page than the following address. -/
def State.branch (s : State) (cond : Bool) (off : Byte) (cycles : Nat) : State :=
  let res := relative (s.pc + 2) off
  if cond then s.jump res.ea (cycles + 1 + res.crossed.toNat) else s.jump (s.pc + 2) cycles

/-- JSR (R271), which reads its target in two phases: the low byte `lo` was fetched with the opcode; the address of
the last byte is pushed; then the high byte is read from memory, which the pushes may have changed (20_memory.md R76). -/
def State.call (s : State) (lo : Byte) (cycles : Nat) : State :=
  let ret := s.pc + 2
  let s1 := s.push16 ret
  s1.jump (addrOf (s1.read ret) lo) cycles

/-- `BPL off` (R261), 2 cycles, one more when taken, two when the target is in another page. -/
def execBpl (off : Byte) (s : State) : Outcome := .next (s.branch (s.flag .n == false) off 2)

/-- `BMI off` (R262), 2 cycles, one more when taken, two when the target is in another page. -/
def execBmi (off : Byte) (s : State) : Outcome := .next (s.branch (s.flag .n == true) off 2)

/-- `BVC off` (R263), 2 cycles, one more when taken, two when the target is in another page. -/
def execBvc (off : Byte) (s : State) : Outcome := .next (s.branch (s.flag .v == false) off 2)

/-- `BVS off` (R264), 2 cycles, one more when taken, two when the target is in another page. -/
def execBvs (off : Byte) (s : State) : Outcome := .next (s.branch (s.flag .v == true) off 2)

/-- `BCC off` (R265), 2 cycles, one more when taken, two when the target is in another page. -/
def execBcc (off : Byte) (s : State) : Outcome := .next (s.branch (s.flag .c == false) off 2)

/-- `BCS off` (R266), 2 cycles, one more when taken, two when the target is in another page. -/
def execBcs (off : Byte) (s : State) : Outcome := .next (s.branch (s.flag .c == true) off 2)

/-- `BNE off` (R267), 2 cycles, one more when taken, two when the target is in another page. -/
def execBne (off : Byte) (s : State) : Outcome := .next (s.branch (s.flag .z == false) off 2)

/-- `BEQ off` (R268), 2 cycles, one more when taken, two when the target is in another page. -/
def execBeq (off : Byte) (s : State) : Outcome := .next (s.branch (s.flag .z == true) off 2)

/-- `JMP w` (R270), 3 cycles. -/
def execJmpAbs (w : Addr) (s : State) : Outcome := .next (s.jump w 3)

/-- `JMP (w)` (R270), 5 cycles. -/
def execJmpInd (w : Addr) (s : State) : Outcome := .next (s.jump (s.indirectTarget w) 5)

/-- `JSR w` (R271), 6 cycles. -/
def execJsr (w : Addr) (s : State) : Outcome := .next (s.call (loByte w) 6)

/-- `RTS` (R272), 6 cycles. -/
def execRts (s : State) : Outcome := .next (s.pull16.2.jump (s.pull16.1 + 1) 6)

/-- `BRK` (R274), 7 cycles. -/
def execBrk (s : State) : Outcome := .next (s.enterTrap (s.pc + 2) 7)

/-- `RTI` (R275), 6 cycles. -/
def execRti (s : State) : Outcome := .next (s.leaveTrap 6)

end Sys2Proof.Machine
end

