-- ==== Sys2Proof/Machine/FlagOps.lean ====
section
/-!
DEFINITION. Flag instructions and NOP (47_flags_misc.md R290 to R297).
-/

namespace Sys2Proof.Machine

/-- `CLC` (R290), 2 cycles. -/
def execClc (s : State) : Outcome := .next ((s.putFlag .c false).retire 1 2)

/-- `SEC` (R291), 2 cycles. -/
def execSec (s : State) : Outcome := .next ((s.putFlag .c true).retire 1 2)

/-- `CLI` (R292), 2 cycles. -/
def execCli (s : State) : Outcome := .next ((s.putFlag .i false).retire 1 2)

/-- `SEI` (R293), 2 cycles. -/
def execSei (s : State) : Outcome := .next ((s.putFlag .i true).retire 1 2)

/-- `CLV` (R294), 2 cycles. -/
def execClv (s : State) : Outcome := .next ((s.putFlag .v false).retire 1 2)

/-- `CLD` (R295), 2 cycles. -/
def execCld (s : State) : Outcome := .next ((s.putFlag .d false).retire 1 2)

/-- `SED` (R296), 2 cycles. -/
def execSed (s : State) : Outcome := .next ((s.putFlag .d true).retire 1 2)

/-- `NOP` (R297), 2 cycles. -/
def execNop (s : State) : Outcome := .next (s.retire 1 2)

end Sys2Proof.Machine
end

