-- ==== Sys2Proof/Machine/LoadStore.lean ====
section
/-!
DEFINITION. Loads, stores and register transfers (42_load_store_transfer.md R170 to R181).
-/

namespace Sys2Proof.Machine

/-- A load: the operand to a register, N and Z set from it; read-class cycles (30_encoding.md R98). -/
def State.loadReg (s : State) (r : Reg) (o : ReadOperand) (cycles : Nat) : State :=
  (s.setResult r (o.value s)).retire o.length (cycles + o.penalty s)

/-- A store: a register to the effective address, no flag; fixed cycles (30_encoding.md R98). -/
def State.storeReg (s : State) (r : Reg) (o : MemOperand) (cycles : Nat) : State :=
  (s.write (o.ea s) (s.get r)).retire o.length cycles

/-- A transfer between registers, N and Z set from the byte moved (10_state.md R40). -/
def State.transfer (s : State) (src dst : Reg) (cycles : Nat) : State :=
  (s.setResult dst (s.get src)).retire 1 cycles

/-- `LDA #v` (R170), 2 cycles. -/
def execLdaImm (v : Byte) (s : State) : Outcome := .next (s.loadReg .a (.imm v) 2)

/-- `LDA a` (R170), 3 cycles. -/
def execLdaZp (a : Byte) (s : State) : Outcome := .next (s.loadReg .a (.mem (.zp a)) 3)

/-- `LDA a,X` (R170), 4 cycles. -/
def execLdaZpX (a : Byte) (s : State) : Outcome := .next (s.loadReg .a (.mem (.zpX a)) 4)

/-- `LDA w` (R170), 4 cycles. -/
def execLdaAbs (w : Addr) (s : State) : Outcome := .next (s.loadReg .a (.mem (.abs w)) 4)

/-- `LDA w,X` (R170), 4 cycles, one more when the address crosses a page. -/
def execLdaAbsX (w : Addr) (s : State) : Outcome := .next (s.loadReg .a (.mem (.absX w)) 4)

/-- `LDA w,Y` (R170), 4 cycles, one more when the address crosses a page. -/
def execLdaAbsY (w : Addr) (s : State) : Outcome := .next (s.loadReg .a (.mem (.absY w)) 4)

/-- `LDA (a,X)` (R170), 6 cycles. -/
def execLdaIndX (a : Byte) (s : State) : Outcome := .next (s.loadReg .a (.mem (.indX a)) 6)

/-- `LDA (a),Y` (R170), 5 cycles, one more when the address crosses a page. -/
def execLdaIndY (a : Byte) (s : State) : Outcome := .next (s.loadReg .a (.mem (.indY a)) 5)

/-- `LDX #v` (R171), 2 cycles. -/
def execLdxImm (v : Byte) (s : State) : Outcome := .next (s.loadReg .x (.imm v) 2)

/-- `LDX a` (R171), 3 cycles. -/
def execLdxZp (a : Byte) (s : State) : Outcome := .next (s.loadReg .x (.mem (.zp a)) 3)

/-- `LDX a,Y` (R171), 4 cycles. -/
def execLdxZpY (a : Byte) (s : State) : Outcome := .next (s.loadReg .x (.mem (.zpY a)) 4)

/-- `LDX w` (R171), 4 cycles. -/
def execLdxAbs (w : Addr) (s : State) : Outcome := .next (s.loadReg .x (.mem (.abs w)) 4)

/-- `LDX w,Y` (R171), 4 cycles, one more when the address crosses a page. -/
def execLdxAbsY (w : Addr) (s : State) : Outcome := .next (s.loadReg .x (.mem (.absY w)) 4)

/-- `LDY #v` (R172), 2 cycles. -/
def execLdyImm (v : Byte) (s : State) : Outcome := .next (s.loadReg .y (.imm v) 2)

/-- `LDY a` (R172), 3 cycles. -/
def execLdyZp (a : Byte) (s : State) : Outcome := .next (s.loadReg .y (.mem (.zp a)) 3)

/-- `LDY a,X` (R172), 4 cycles. -/
def execLdyZpX (a : Byte) (s : State) : Outcome := .next (s.loadReg .y (.mem (.zpX a)) 4)

/-- `LDY w` (R172), 4 cycles. -/
def execLdyAbs (w : Addr) (s : State) : Outcome := .next (s.loadReg .y (.mem (.abs w)) 4)

/-- `LDY w,X` (R172), 4 cycles, one more when the address crosses a page. -/
def execLdyAbsX (w : Addr) (s : State) : Outcome := .next (s.loadReg .y (.mem (.absX w)) 4)

/-- `STA a` (R173), 3 cycles. -/
def execStaZp (a : Byte) (s : State) : Outcome := .next (s.storeReg .a (.zp a) 3)

/-- `STA a,X` (R173), 4 cycles. -/
def execStaZpX (a : Byte) (s : State) : Outcome := .next (s.storeReg .a (.zpX a) 4)

/-- `STA w` (R173), 4 cycles. -/
def execStaAbs (w : Addr) (s : State) : Outcome := .next (s.storeReg .a (.abs w) 4)

/-- `STA w,X` (R173), 5 cycles. -/
def execStaAbsX (w : Addr) (s : State) : Outcome := .next (s.storeReg .a (.absX w) 5)

/-- `STA w,Y` (R173), 5 cycles. -/
def execStaAbsY (w : Addr) (s : State) : Outcome := .next (s.storeReg .a (.absY w) 5)

/-- `STA (a,X)` (R173), 6 cycles. -/
def execStaIndX (a : Byte) (s : State) : Outcome := .next (s.storeReg .a (.indX a) 6)

/-- `STA (a),Y` (R173), 6 cycles. -/
def execStaIndY (a : Byte) (s : State) : Outcome := .next (s.storeReg .a (.indY a) 6)

/-- `STX a` (R174), 3 cycles. -/
def execStxZp (a : Byte) (s : State) : Outcome := .next (s.storeReg .x (.zp a) 3)

/-- `STX a,Y` (R174), 4 cycles. -/
def execStxZpY (a : Byte) (s : State) : Outcome := .next (s.storeReg .x (.zpY a) 4)

/-- `STX w` (R174), 4 cycles. -/
def execStxAbs (w : Addr) (s : State) : Outcome := .next (s.storeReg .x (.abs w) 4)

/-- `STY a` (R175), 3 cycles. -/
def execStyZp (a : Byte) (s : State) : Outcome := .next (s.storeReg .y (.zp a) 3)

/-- `STY a,X` (R175), 4 cycles. -/
def execStyZpX (a : Byte) (s : State) : Outcome := .next (s.storeReg .y (.zpX a) 4)

/-- `STY w` (R175), 4 cycles. -/
def execStyAbs (w : Addr) (s : State) : Outcome := .next (s.storeReg .y (.abs w) 4)

/-- `TAX` (R176), 2 cycles. -/
def execTax (s : State) : Outcome := .next (s.transfer .a .x 2)

/-- `TAY` (R177), 2 cycles. -/
def execTay (s : State) : Outcome := .next (s.transfer .a .y 2)

/-- `TXA` (R178), 2 cycles. -/
def execTxa (s : State) : Outcome := .next (s.transfer .x .a 2)

/-- `TYA` (R179), 2 cycles. -/
def execTya (s : State) : Outcome := .next (s.transfer .y .a 2)

/-- `TSX` (R180), 2 cycles. -/
def execTsx (s : State) : Outcome := .next (s.transfer .sp .x 2)

/-- `TXS` (R181), 2 cycles. -/
def execTxs (s : State) : Outcome := .next ((s.set .sp s.x).retire 1 2)

end Sys2Proof.Machine
end

