-- ==== Sys2Proof/Machine/LogicShift.lean ====
section
/-!
DEFINITION. Logic, bit test, shifts and rotates (45_logic_shift.md R240 to R248).
-/

namespace Sys2Proof.Machine

/-- AND (R240): the result and P. -/
def andByte (a m p : Byte) : Byte × Byte := (a &&& m, setNZ p (a &&& m))

/-- ORA (R241): the result and P. -/
def oraByte (a m p : Byte) : Byte × Byte := (a ||| m, setNZ p (a ||| m))

/-- EOR (R242): the result and P. -/
def eorByte (a m p : Byte) : Byte × Byte := (a ^^^ m, setNZ p (a ^^^ m))

/-- BIT: flags only (R243); neither of its modes crosses a page. -/
def State.bitTest (s : State) (o : ReadOperand) (cycles : Nat) : State :=
  { s with p := bitFlags s.a (o.value s) s.p }.retire o.length cycles

/-- `AND #v` (R240), 2 cycles. -/
def execAndImm (v : Byte) (s : State) : Outcome := .next (s.accumulate andByte (.imm v) 2)

/-- `AND a` (R240), 3 cycles. -/
def execAndZp (a : Byte) (s : State) : Outcome := .next (s.accumulate andByte (.mem (.zp a)) 3)

/-- `AND a,X` (R240), 4 cycles. -/
def execAndZpX (a : Byte) (s : State) : Outcome := .next (s.accumulate andByte (.mem (.zpX a)) 4)

/-- `AND w` (R240), 4 cycles. -/
def execAndAbs (w : Addr) (s : State) : Outcome := .next (s.accumulate andByte (.mem (.abs w)) 4)

/-- `AND w,X` (R240), 4 cycles, one more when the address crosses a page. -/
def execAndAbsX (w : Addr) (s : State) : Outcome := .next (s.accumulate andByte (.mem (.absX w)) 4)

/-- `AND w,Y` (R240), 4 cycles, one more when the address crosses a page. -/
def execAndAbsY (w : Addr) (s : State) : Outcome := .next (s.accumulate andByte (.mem (.absY w)) 4)

/-- `AND (a,X)` (R240), 6 cycles. -/
def execAndIndX (a : Byte) (s : State) : Outcome := .next (s.accumulate andByte (.mem (.indX a)) 6)

/-- `AND (a),Y` (R240), 5 cycles, one more when the address crosses a page. -/
def execAndIndY (a : Byte) (s : State) : Outcome := .next (s.accumulate andByte (.mem (.indY a)) 5)

/-- `ORA #v` (R241), 2 cycles. -/
def execOraImm (v : Byte) (s : State) : Outcome := .next (s.accumulate oraByte (.imm v) 2)

/-- `ORA a` (R241), 3 cycles. -/
def execOraZp (a : Byte) (s : State) : Outcome := .next (s.accumulate oraByte (.mem (.zp a)) 3)

/-- `ORA a,X` (R241), 4 cycles. -/
def execOraZpX (a : Byte) (s : State) : Outcome := .next (s.accumulate oraByte (.mem (.zpX a)) 4)

/-- `ORA w` (R241), 4 cycles. -/
def execOraAbs (w : Addr) (s : State) : Outcome := .next (s.accumulate oraByte (.mem (.abs w)) 4)

/-- `ORA w,X` (R241), 4 cycles, one more when the address crosses a page. -/
def execOraAbsX (w : Addr) (s : State) : Outcome := .next (s.accumulate oraByte (.mem (.absX w)) 4)

/-- `ORA w,Y` (R241), 4 cycles, one more when the address crosses a page. -/
def execOraAbsY (w : Addr) (s : State) : Outcome := .next (s.accumulate oraByte (.mem (.absY w)) 4)

/-- `ORA (a,X)` (R241), 6 cycles. -/
def execOraIndX (a : Byte) (s : State) : Outcome := .next (s.accumulate oraByte (.mem (.indX a)) 6)

/-- `ORA (a),Y` (R241), 5 cycles, one more when the address crosses a page. -/
def execOraIndY (a : Byte) (s : State) : Outcome := .next (s.accumulate oraByte (.mem (.indY a)) 5)

/-- `EOR #v` (R242), 2 cycles. -/
def execEorImm (v : Byte) (s : State) : Outcome := .next (s.accumulate eorByte (.imm v) 2)

/-- `EOR a` (R242), 3 cycles. -/
def execEorZp (a : Byte) (s : State) : Outcome := .next (s.accumulate eorByte (.mem (.zp a)) 3)

/-- `EOR a,X` (R242), 4 cycles. -/
def execEorZpX (a : Byte) (s : State) : Outcome := .next (s.accumulate eorByte (.mem (.zpX a)) 4)

/-- `EOR w` (R242), 4 cycles. -/
def execEorAbs (w : Addr) (s : State) : Outcome := .next (s.accumulate eorByte (.mem (.abs w)) 4)

/-- `EOR w,X` (R242), 4 cycles, one more when the address crosses a page. -/
def execEorAbsX (w : Addr) (s : State) : Outcome := .next (s.accumulate eorByte (.mem (.absX w)) 4)

/-- `EOR w,Y` (R242), 4 cycles, one more when the address crosses a page. -/
def execEorAbsY (w : Addr) (s : State) : Outcome := .next (s.accumulate eorByte (.mem (.absY w)) 4)

/-- `EOR (a,X)` (R242), 6 cycles. -/
def execEorIndX (a : Byte) (s : State) : Outcome := .next (s.accumulate eorByte (.mem (.indX a)) 6)

/-- `EOR (a),Y` (R242), 5 cycles, one more when the address crosses a page. -/
def execEorIndY (a : Byte) (s : State) : Outcome := .next (s.accumulate eorByte (.mem (.indY a)) 5)

/-- `BIT a` (R243), 3 cycles. -/
def execBitZp (a : Byte) (s : State) : Outcome := .next (s.bitTest (.mem (.zp a)) 3)

/-- `BIT w` (R243), 4 cycles. -/
def execBitAbs (w : Addr) (s : State) : Outcome := .next (s.bitTest (.mem (.abs w)) 4)

/-- `ASL A` (R244), 2 cycles. -/
def execAslAcc (s : State) : Outcome := .next (s.modify aslByte .acc 2)

/-- `ASL a` (R244), 5 cycles. -/
def execAslZp (a : Byte) (s : State) : Outcome := .next (s.modify aslByte (.mem (.zp a)) 5)

/-- `ASL a,X` (R244), 6 cycles. -/
def execAslZpX (a : Byte) (s : State) : Outcome := .next (s.modify aslByte (.mem (.zpX a)) 6)

/-- `ASL w` (R244), 6 cycles. -/
def execAslAbs (w : Addr) (s : State) : Outcome := .next (s.modify aslByte (.mem (.abs w)) 6)

/-- `ASL w,X` (R244), 7 cycles. -/
def execAslAbsX (w : Addr) (s : State) : Outcome := .next (s.modify aslByte (.mem (.absX w)) 7)

/-- `LSR A` (R245), 2 cycles. -/
def execLsrAcc (s : State) : Outcome := .next (s.modify lsrByte .acc 2)

/-- `LSR a` (R245), 5 cycles. -/
def execLsrZp (a : Byte) (s : State) : Outcome := .next (s.modify lsrByte (.mem (.zp a)) 5)

/-- `LSR a,X` (R245), 6 cycles. -/
def execLsrZpX (a : Byte) (s : State) : Outcome := .next (s.modify lsrByte (.mem (.zpX a)) 6)

/-- `LSR w` (R245), 6 cycles. -/
def execLsrAbs (w : Addr) (s : State) : Outcome := .next (s.modify lsrByte (.mem (.abs w)) 6)

/-- `LSR w,X` (R245), 7 cycles. -/
def execLsrAbsX (w : Addr) (s : State) : Outcome := .next (s.modify lsrByte (.mem (.absX w)) 7)

/-- `ROL A` (R246), 2 cycles. -/
def execRolAcc (s : State) : Outcome := .next (s.modify rolByte .acc 2)

/-- `ROL a` (R246), 5 cycles. -/
def execRolZp (a : Byte) (s : State) : Outcome := .next (s.modify rolByte (.mem (.zp a)) 5)

/-- `ROL a,X` (R246), 6 cycles. -/
def execRolZpX (a : Byte) (s : State) : Outcome := .next (s.modify rolByte (.mem (.zpX a)) 6)

/-- `ROL w` (R246), 6 cycles. -/
def execRolAbs (w : Addr) (s : State) : Outcome := .next (s.modify rolByte (.mem (.abs w)) 6)

/-- `ROL w,X` (R246), 7 cycles. -/
def execRolAbsX (w : Addr) (s : State) : Outcome := .next (s.modify rolByte (.mem (.absX w)) 7)

/-- `ROR A` (R247), 2 cycles. -/
def execRorAcc (s : State) : Outcome := .next (s.modify rorByte .acc 2)

/-- `ROR a` (R247), 5 cycles. -/
def execRorZp (a : Byte) (s : State) : Outcome := .next (s.modify rorByte (.mem (.zp a)) 5)

/-- `ROR a,X` (R247), 6 cycles. -/
def execRorZpX (a : Byte) (s : State) : Outcome := .next (s.modify rorByte (.mem (.zpX a)) 6)

/-- `ROR w` (R247), 6 cycles. -/
def execRorAbs (w : Addr) (s : State) : Outcome := .next (s.modify rorByte (.mem (.abs w)) 6)

/-- `ROR w,X` (R247), 7 cycles. -/
def execRorAbsX (w : Addr) (s : State) : Outcome := .next (s.modify rorByte (.mem (.absX w)) 7)

end Sys2Proof.Machine
end

