-- ==== Sys2Proof/Machine/Stack.lean ====
section
/-!
DEFINITION. Stack instructions (43_stack.md R200 to R203).
-/

namespace Sys2Proof.Machine

/-- `PHA` (R200), 3 cycles. -/
def execPha (s : State) : Outcome := .next ((s.push s.a).retire 1 3)

/-- `PHP` (R201), 3 cycles. -/
def execPhp (s : State) : Outcome := .next ((s.push (pushedStatus s.p)).retire 1 3)

/-- `PLA` (R202), 4 cycles. -/
def execPla (s : State) : Outcome := .next ((s.pull.2.setResult .a s.pull.1).retire 1 4)

/-- `PLP` (R203), 4 cycles. -/
def execPlp (s : State) : Outcome := .next ((s.pull.2.setStatus s.pull.1).retire 1 4)

end Sys2Proof.Machine
end

