-- ==== Sys2Proof/Machine/Dispatch.lean ====
section
/-!
DEFINITION. The dispatch: the meaning of each instruction (41_execution_engine.md R152). A meaning starts from the
state at the fetch, PC at the opcode byte, and gives the state after the whole step, PC and CYC included.
-/

namespace Sys2Proof.Machine

/-- The step of one decoded instruction. -/
def exec (i : Instr) (s : State) : Host.Outcome State Fault Refusal :=
  match i with
  -- Loads, stores and transfers (42_load_store_transfer.md)
  | .ldaImm v => Sys2Proof.Machine.execLdaImm v s
  | .ldaZp a => Sys2Proof.Machine.execLdaZp a s
  | .ldaZpX a => Sys2Proof.Machine.execLdaZpX a s
  | .ldaAbs w => Sys2Proof.Machine.execLdaAbs w s
  | .ldaAbsX w => Sys2Proof.Machine.execLdaAbsX w s
  | .ldaAbsY w => Sys2Proof.Machine.execLdaAbsY w s
  | .ldaIndX a => Sys2Proof.Machine.execLdaIndX a s
  | .ldaIndY a => Sys2Proof.Machine.execLdaIndY a s
  | .ldxImm v => Sys2Proof.Machine.execLdxImm v s
  | .ldxZp a => Sys2Proof.Machine.execLdxZp a s
  | .ldxZpY a => Sys2Proof.Machine.execLdxZpY a s
  | .ldxAbs w => Sys2Proof.Machine.execLdxAbs w s
  | .ldxAbsY w => Sys2Proof.Machine.execLdxAbsY w s
  | .ldyImm v => Sys2Proof.Machine.execLdyImm v s
  | .ldyZp a => Sys2Proof.Machine.execLdyZp a s
  | .ldyZpX a => Sys2Proof.Machine.execLdyZpX a s
  | .ldyAbs w => Sys2Proof.Machine.execLdyAbs w s
  | .ldyAbsX w => Sys2Proof.Machine.execLdyAbsX w s
  | .staZp a => Sys2Proof.Machine.execStaZp a s
  | .staZpX a => Sys2Proof.Machine.execStaZpX a s
  | .staAbs w => Sys2Proof.Machine.execStaAbs w s
  | .staAbsX w => Sys2Proof.Machine.execStaAbsX w s
  | .staAbsY w => Sys2Proof.Machine.execStaAbsY w s
  | .staIndX a => Sys2Proof.Machine.execStaIndX a s
  | .staIndY a => Sys2Proof.Machine.execStaIndY a s
  | .stxZp a => Sys2Proof.Machine.execStxZp a s
  | .stxZpY a => Sys2Proof.Machine.execStxZpY a s
  | .stxAbs w => Sys2Proof.Machine.execStxAbs w s
  | .styZp a => Sys2Proof.Machine.execStyZp a s
  | .styZpX a => Sys2Proof.Machine.execStyZpX a s
  | .styAbs w => Sys2Proof.Machine.execStyAbs w s
  | .tax => Sys2Proof.Machine.execTax s
  | .tay => Sys2Proof.Machine.execTay s
  | .txa => Sys2Proof.Machine.execTxa s
  | .tya => Sys2Proof.Machine.execTya s
  | .tsx => Sys2Proof.Machine.execTsx s
  | .txs => Sys2Proof.Machine.execTxs s
  -- Stack (43_stack.md)
  | .pha => Sys2Proof.Machine.execPha s
  | .php => Sys2Proof.Machine.execPhp s
  | .pla => Sys2Proof.Machine.execPla s
  | .plp => Sys2Proof.Machine.execPlp s
  -- Arithmetic, compare, increment, decrement (44_arithmetic.md)
  | .adcImm v => Sys2Proof.Machine.execAdcImm v s
  | .adcZp a => Sys2Proof.Machine.execAdcZp a s
  | .adcZpX a => Sys2Proof.Machine.execAdcZpX a s
  | .adcAbs w => Sys2Proof.Machine.execAdcAbs w s
  | .adcAbsX w => Sys2Proof.Machine.execAdcAbsX w s
  | .adcAbsY w => Sys2Proof.Machine.execAdcAbsY w s
  | .adcIndX a => Sys2Proof.Machine.execAdcIndX a s
  | .adcIndY a => Sys2Proof.Machine.execAdcIndY a s
  | .sbcImm v => Sys2Proof.Machine.execSbcImm v s
  | .sbcZp a => Sys2Proof.Machine.execSbcZp a s
  | .sbcZpX a => Sys2Proof.Machine.execSbcZpX a s
  | .sbcAbs w => Sys2Proof.Machine.execSbcAbs w s
  | .sbcAbsX w => Sys2Proof.Machine.execSbcAbsX w s
  | .sbcAbsY w => Sys2Proof.Machine.execSbcAbsY w s
  | .sbcIndX a => Sys2Proof.Machine.execSbcIndX a s
  | .sbcIndY a => Sys2Proof.Machine.execSbcIndY a s
  | .cmpImm v => Sys2Proof.Machine.execCmpImm v s
  | .cmpZp a => Sys2Proof.Machine.execCmpZp a s
  | .cmpZpX a => Sys2Proof.Machine.execCmpZpX a s
  | .cmpAbs w => Sys2Proof.Machine.execCmpAbs w s
  | .cmpAbsX w => Sys2Proof.Machine.execCmpAbsX w s
  | .cmpAbsY w => Sys2Proof.Machine.execCmpAbsY w s
  | .cmpIndX a => Sys2Proof.Machine.execCmpIndX a s
  | .cmpIndY a => Sys2Proof.Machine.execCmpIndY a s
  | .cpxImm v => Sys2Proof.Machine.execCpxImm v s
  | .cpxZp a => Sys2Proof.Machine.execCpxZp a s
  | .cpxAbs w => Sys2Proof.Machine.execCpxAbs w s
  | .cpyImm v => Sys2Proof.Machine.execCpyImm v s
  | .cpyZp a => Sys2Proof.Machine.execCpyZp a s
  | .cpyAbs w => Sys2Proof.Machine.execCpyAbs w s
  | .incZp a => Sys2Proof.Machine.execIncZp a s
  | .incZpX a => Sys2Proof.Machine.execIncZpX a s
  | .incAbs w => Sys2Proof.Machine.execIncAbs w s
  | .incAbsX w => Sys2Proof.Machine.execIncAbsX w s
  | .decZp a => Sys2Proof.Machine.execDecZp a s
  | .decZpX a => Sys2Proof.Machine.execDecZpX a s
  | .decAbs w => Sys2Proof.Machine.execDecAbs w s
  | .decAbsX w => Sys2Proof.Machine.execDecAbsX w s
  | .inx => Sys2Proof.Machine.execInx s
  | .iny => Sys2Proof.Machine.execIny s
  | .dex => Sys2Proof.Machine.execDex s
  | .dey => Sys2Proof.Machine.execDey s
  -- Logic, bit test, shift, rotate (45_logic_shift.md)
  | .andImm v => Sys2Proof.Machine.execAndImm v s
  | .andZp a => Sys2Proof.Machine.execAndZp a s
  | .andZpX a => Sys2Proof.Machine.execAndZpX a s
  | .andAbs w => Sys2Proof.Machine.execAndAbs w s
  | .andAbsX w => Sys2Proof.Machine.execAndAbsX w s
  | .andAbsY w => Sys2Proof.Machine.execAndAbsY w s
  | .andIndX a => Sys2Proof.Machine.execAndIndX a s
  | .andIndY a => Sys2Proof.Machine.execAndIndY a s
  | .oraImm v => Sys2Proof.Machine.execOraImm v s
  | .oraZp a => Sys2Proof.Machine.execOraZp a s
  | .oraZpX a => Sys2Proof.Machine.execOraZpX a s
  | .oraAbs w => Sys2Proof.Machine.execOraAbs w s
  | .oraAbsX w => Sys2Proof.Machine.execOraAbsX w s
  | .oraAbsY w => Sys2Proof.Machine.execOraAbsY w s
  | .oraIndX a => Sys2Proof.Machine.execOraIndX a s
  | .oraIndY a => Sys2Proof.Machine.execOraIndY a s
  | .eorImm v => Sys2Proof.Machine.execEorImm v s
  | .eorZp a => Sys2Proof.Machine.execEorZp a s
  | .eorZpX a => Sys2Proof.Machine.execEorZpX a s
  | .eorAbs w => Sys2Proof.Machine.execEorAbs w s
  | .eorAbsX w => Sys2Proof.Machine.execEorAbsX w s
  | .eorAbsY w => Sys2Proof.Machine.execEorAbsY w s
  | .eorIndX a => Sys2Proof.Machine.execEorIndX a s
  | .eorIndY a => Sys2Proof.Machine.execEorIndY a s
  | .bitZp a => Sys2Proof.Machine.execBitZp a s
  | .bitAbs w => Sys2Proof.Machine.execBitAbs w s
  | .aslAcc => Sys2Proof.Machine.execAslAcc s
  | .aslZp a => Sys2Proof.Machine.execAslZp a s
  | .aslZpX a => Sys2Proof.Machine.execAslZpX a s
  | .aslAbs w => Sys2Proof.Machine.execAslAbs w s
  | .aslAbsX w => Sys2Proof.Machine.execAslAbsX w s
  | .lsrAcc => Sys2Proof.Machine.execLsrAcc s
  | .lsrZp a => Sys2Proof.Machine.execLsrZp a s
  | .lsrZpX a => Sys2Proof.Machine.execLsrZpX a s
  | .lsrAbs w => Sys2Proof.Machine.execLsrAbs w s
  | .lsrAbsX w => Sys2Proof.Machine.execLsrAbsX w s
  | .rolAcc => Sys2Proof.Machine.execRolAcc s
  | .rolZp a => Sys2Proof.Machine.execRolZp a s
  | .rolZpX a => Sys2Proof.Machine.execRolZpX a s
  | .rolAbs w => Sys2Proof.Machine.execRolAbs w s
  | .rolAbsX w => Sys2Proof.Machine.execRolAbsX w s
  | .rorAcc => Sys2Proof.Machine.execRorAcc s
  | .rorZp a => Sys2Proof.Machine.execRorZp a s
  | .rorZpX a => Sys2Proof.Machine.execRorZpX a s
  | .rorAbs w => Sys2Proof.Machine.execRorAbs w s
  | .rorAbsX w => Sys2Proof.Machine.execRorAbsX w s
  -- Control transfer (46_control.md)
  | .bpl off => Sys2Proof.Machine.execBpl off s
  | .bmi off => Sys2Proof.Machine.execBmi off s
  | .bvc off => Sys2Proof.Machine.execBvc off s
  | .bvs off => Sys2Proof.Machine.execBvs off s
  | .bcc off => Sys2Proof.Machine.execBcc off s
  | .bcs off => Sys2Proof.Machine.execBcs off s
  | .bne off => Sys2Proof.Machine.execBne off s
  | .beq off => Sys2Proof.Machine.execBeq off s
  | .jmpAbs w => Sys2Proof.Machine.execJmpAbs w s
  | .jmpInd w => Sys2Proof.Machine.execJmpInd w s
  | .jsr w => Sys2Proof.Machine.execJsr w s
  | .rts => Sys2Proof.Machine.execRts s
  | .brk => Sys2Proof.Machine.execBrk s
  | .rti => Sys2Proof.Machine.execRti s
  -- Flags and NOP (47_flags_misc.md)
  | .clc => Sys2Proof.Machine.execClc s
  | .sec => Sys2Proof.Machine.execSec s
  | .cli => Sys2Proof.Machine.execCli s
  | .sei => Sys2Proof.Machine.execSei s
  | .clv => Sys2Proof.Machine.execClv s
  | .cld => Sys2Proof.Machine.execCld s
  | .sed => Sys2Proof.Machine.execSed s
  | .nop => Sys2Proof.Machine.execNop s

end Sys2Proof.Machine
end

