-- ==== Sys2Proof/Machine/Fetch.lean ====
section
/-!
DEFINITION. Fetch and decode (41_execution_engine.md R151): the instruction at PC, or the Illegal-Instruction fault;
and placing an instruction's bytes where the next fetch reads them.
-/

namespace Sys2Proof.Machine

/-- The instruction at PC, with operand bytes at PC + 1 and PC + 2 mod 2^16 (30_encoding.md R90); an opcode byte without
a descriptor raises Illegal-Instruction with its address and value (60_exceptions.md R300). Reads change nothing
(20_memory.md R61), so reading a byte the instruction does not have cannot be seen (log entry 7). -/
def State.fetch (s : State) : Except Fault Instr :=
  let op := s.read s.pc
  match decodeOpcode op (s.read (s.pc + 1)) (s.read (s.pc + 2)) with
  | some i => .ok i
  | none => .error (.illegalInstruction s.pc op)

/-- Bytes stored at rising addresses, mod 2^16, from `addr` on. -/
def State.writeBytes (s : State) (addr : Addr) : List Byte → State
  | [] => s
  | v :: rest => (s.write addr v).writeBytes (addr + 1) rest

/-- The state with a table word stored at PC and the engine running, so that the next step fetches it (log entry 4). -/
def State.placeWord (s : State) (nbits w : Nat) : State :=
  { s.writeBytes s.pc (bytesOfWord nbits w) with mode := .running }

end Sys2Proof.Machine
end

