-- ==== Sys2Proof/Machine/Step.lean ====
section
/-!
DEFINITION. One step of the core (41_execution_engine.md R150 to R154).
-/

namespace Sys2Proof.Machine

/-- `step()`: refused unless Running (R150); fetch and decode (R151); then the instruction (R152, R153). An illegal
opcode ends the step with the fault, reported to the caller (60_exceptions.md R300); `hostStep` gives the state the
host then sees, Halted (log entry 1). -/
def step (s : State) : Host.Outcome State Fault Refusal :=
  match s.mode with
  | .unreset => .refused .unreset
  | .halted _ => .refused .halted
  | .running =>
    match s.fetch with
    | .ok i => exec i s
    | .error f => .fault f

/-- The state with a table word stored where the next step fetches its instruction, and Running (log entry 4). -/
def State.withFetchWord (s : State) (nbits w : Nat) : State := s.placeWord nbits w

end Sys2Proof.Machine
end

