-- ==== Sys2Proof/Machine/HostInterface.lean ====
section
/-!
DEFINITION. What the host does to the core, between steps (41_execution_engine.md R158): `step()` and `run(n)` with the
state the host sees after a fault, `load` and `dump` of the whole memory (20_memory.md R72), and reading the registers.
`reset()` is `State.resetOp` of Machine/Ops.lean.
-/

namespace Sys2Proof.Machine

/-- What a call of `step()` or `run(n)` gives back: the completed steps, the fault or the refusal that ended it early,
and the state the host then sees. -/
structure RunReport where
  steps : Nat
  fault : Option Fault
  refusal : Option Refusal
  state : State
deriving DecidableEq, Repr

/-- `run(n)` (41_execution_engine.md R157): steps until `n` have completed or a step raises Illegal-Instruction, after
which the state is as before that step but Halted (60_exceptions.md R300). DESIGN CHOICE (log entry 11): called
in Unreset or Halted, which its precondition excludes (R158), it completes no step and changes nothing; for n > 0 it
reports the refusal of its first `step()`, and `run(0)`, which calls no step, reports neither a fault nor a refusal in
any Mode. -/
def runHost : Nat → State → RunReport
  | 0, s => ⟨0, none, none, s⟩
  | n + 1, s =>
    match step s with
    | .next t => let r := runHost n t; { r with steps := r.steps + 1 }
    | .fault f => ⟨0, some f, none, s.halt f⟩
    | .refused r => ⟨0, none, some r, s⟩

/-- `step()` as the host calls it: "ok, or Illegal-Instruction with (pc, opcode)" (41_execution_engine.md R158), with
the state after it. -/
def hostStep (s : State) : RunReport := runHost 1 s

/-- Errors of a host operation. -/
inductive HostError where
  /-- Image-Size-Mismatch of `load`, with the length given (20_memory.md R72, 60_exceptions.md R303). -/
  | imageSizeMismatch (length : Nat)
deriving DecidableEq, Repr

/-- `load(source)`: exactly 65,536 bytes, byte i stored in cell i, nothing else changing; any other length is reported
and "core state left unchanged" (20_memory.md R72), so that the caller keeps `s`. -/
def State.hostLoad (s : State) (image : List Byte) : Except HostError State :=
  if image.length = memSize then .ok { s with mem := Memory.ofBytes image }
  else .error (.imageSizeMismatch image.length)

/-- `dump(sink)`: the 65,536 cells in address order (20_memory.md R72). -/
def State.dump (s : State) : List Byte := Memory.toBytes s.mem

/-- The registers as the host reads them. -/
structure RegView where
  a : Byte
  x : Byte
  y : Byte
  sp : Byte
  pc : Addr
  p : Byte
  cyc : Nat
deriving DecidableEq, Repr

/-- The host's read of the registers and CYC; in Unreset they hold no value (10_state.md R43, 41_execution_engine.md
R158). -/
def State.hostReadRegs (s : State) : Option RegView :=
  match s.mode with
  | .unreset => none
  | .running | .halted _ => some ⟨s.a, s.x, s.y, s.sp, s.pc, s.p, s.cyc⟩

/-- The host's read of Mode (41_execution_engine.md R158). -/
def State.hostReadMode (s : State) : Mode := s.mode

end Sys2Proof.Machine
end

