-- ==== Sys2Proof/Safety.lean ====
section
/-!
DEFINITION. The terms of the claims: the invariant, what a safe run is, which instruction may write which flag, register
or cell, what a step costs, and the forms of the mnemonics that have several addressing modes. They are written from the
spec's own lists (10_state.md R32 to R39, 30_encoding.md R95, R97, R98), not from the meanings.
-/

namespace Sys2Proof.Machine

/-! ### The invariant and safe runs -/

/-- What every step keeps: memory in canonical form, bit 5 of P set and B clear (10_state.md R37, R38). -/
structure State.Inv (s : State) : Prop where
  memWf : s.mem.wf = true
  oneSet : s.flag .one = true
  bClear : s.flag .b = false

/-- A run of `n` steps that no fault and no refusal ends early (41_execution_engine.md R159). -/
def State.RunsSafely (s : State) (n : Nat) : Prop := (runHost n s).steps = n

/-! ### Illegal opcodes -/

/-- The opcode values without a descriptor (30_encoding.md R95). -/
def illegalOpcodes : List Byte :=
  [0x02, 0x03, 0x04, 0x07, 0x0B, 0x0C, 0x0F, 0x12, 0x13, 0x14, 0x17, 0x1A, 0x1B, 0x1C, 0x1F, 0x22, 0x23, 0x27,
   0x2B, 0x2F, 0x32, 0x33, 0x34, 0x37, 0x3A, 0x3B, 0x3C] ++
  [0x3F, 0x42, 0x43, 0x44, 0x47, 0x4B, 0x4F, 0x52, 0x53, 0x54, 0x57, 0x5A, 0x5B, 0x5C, 0x5F, 0x62, 0x63, 0x64,
   0x67, 0x6B, 0x6F, 0x72, 0x73, 0x74, 0x77, 0x7A, 0x7B] ++
  [0x7C, 0x7F, 0x80, 0x82, 0x83, 0x87, 0x89, 0x8B, 0x8F, 0x92, 0x93, 0x97, 0x9B, 0x9C, 0x9E, 0x9F, 0xA3, 0xA7,
   0xAB, 0xAF, 0xB2, 0xB3, 0xB7, 0xBB, 0xBF, 0xC2, 0xC3] ++
  [0xC7, 0xCB, 0xCF, 0xD2, 0xD3, 0xD4, 0xD7, 0xDA, 0xDB, 0xDC, 0xDF, 0xE2, 0xE3, 0xE7, 0xEB, 0xEF, 0xF2, 0xF3,
   0xF4, 0xF7, 0xFA, 0xFB, 0xFC, 0xFF]

/-! ### Who writes and who reads what -/

/-- The mnemonics that write N and Z (10_state.md R39). -/
def nzWriters : List Mnemonic :=
  [.lda, .ldx, .ldy, .tax, .tay, .txa, .tya, .tsx, .pla, .adc, .sbc, .and, .ora, .eor, .cmp, .cpx, .cpy, .inc, .dec] ++
  [.inx, .iny, .dex, .dey, .asl, .lsr, .rol, .ror, .bit, .plp, .rti]

/-- The mnemonics that write each flag (10_state.md R39); B and bit 5 are written by none. -/
def flagWriters : Flag → List Mnemonic
  | .c => [.adc, .sbc, .cmp, .cpx, .cpy, .asl, .lsr, .rol, .ror, .clc, .sec, .plp, .rti]
  | .z => nzWriters
  | .n => nzWriters
  | .v => [.adc, .sbc, .bit, .clv, .plp, .rti]
  | .d => [.cld, .sed, .plp, .rti]
  | .i => [.cli, .sei, .brk, .plp, .rti]
  | .b => []
  | .one => []

/-- The forms that write each register (10_state.md R32 to R35): shifts and rotates write A in accumulator mode only. -/
def writesReg (r : Reg) (f : Form) : Bool :=
  match r with
  | .a => [Mnemonic.lda, .txa, .tya, .pla, .adc, .sbc, .and, .ora, .eor].contains f.mnemonic ||
      ([Mnemonic.asl, .lsr, .rol, .ror].contains f.mnemonic && f.mode == .acc)
  | .x => [Mnemonic.ldx, .tax, .tsx, .inx, .dex].contains f.mnemonic
  | .y => [Mnemonic.ldy, .tay, .iny, .dey].contains f.mnemonic
  | .sp => [Mnemonic.txs, .jsr, .rts, .brk, .rti, .pha, .php, .pla, .plp].contains f.mnemonic

/-- The mnemonics that transfer control: PC does not simply move past their bytes (46_control.md). -/
def controlTransfers : List Mnemonic :=
  [.bpl, .bmi, .bvc, .bvs, .bcc, .bcs, .bne, .beq, .jmp, .jsr, .rts, .brk, .rti]

/-- The mnemonics that read each flag (10_state.md R41); PHP and BRK read the whole of P when they push it. -/
def flagReaders : Flag → List Mnemonic
  | .c => [.adc, .sbc, .rol, .ror, .bcc, .bcs, .php, .brk]
  | .z => [.beq, .bne, .php, .brk]
  | .n => [.bmi, .bpl, .php, .brk]
  | .v => [.bvc, .bvs, .php, .brk]
  | .d => [.adc, .sbc, .php, .brk]
  | .i => [.php, .brk]
  | .b => [.php, .brk]
  | .one => [.php, .brk]

/-- The memory operand of an instruction, read off its mode and its operand bytes (30_encoding.md R91, R99). -/
def memOperandOf (i : Instr) : Option MemOperand :=
  match i.form.mode, i.operandBytes with
  | .zp, [a] => some (.zp a)
  | .zpX, [a] => some (.zpX a)
  | .zpY, [a] => some (.zpY a)
  | .abs, [lo, hi] => some (.abs (addrOf hi lo))
  | .absX, [lo, hi] => some (.absX (addrOf hi lo))
  | .absY, [lo, hi] => some (.absY (addrOf hi lo))
  | .indX, [a] => some (.indX a)
  | .indY, [a] => some (.indY a)
  | _, _ => none

/-- The mnemonics that call WriteBack (40_addressing_modes.md R136). -/
def writesBack : List Mnemonic := [.sta, .stx, .sty, .asl, .lsr, .rol, .ror, .inc, .dec]

/-- The addresses an instruction stores to: the effective address of a store or of a read-modify-write on memory, or the
stack cells of its pushes (20_memory.md R66, R77); none for every other instruction. -/
def storedAt (i : Instr) (s : State) : List Addr :=
  if writesBack.contains i.form.mnemonic then ((memOperandOf i).map (fun o => o.ea s)).toList
  else if [Mnemonic.pha, .php].contains i.form.mnemonic then [stackAddr s.sp]
  else if i.form.mnemonic = .jsr then [stackAddr s.sp, stackAddr (s.sp - 1)]
  else if i.form.mnemonic = .brk then [stackAddr s.sp, stackAddr (s.sp - 1), stackAddr (s.sp - 2)]
  else []

/-! ### Cycles -/

/-- The read class (30_encoding.md R98). -/
def readClass : List Mnemonic := [.lda, .ldx, .ldy, .adc, .sbc, .and, .ora, .eor, .cmp]

/-- `page_penalty` of 41_execution_engine.md R153. -/
def pagePenalty (i : Instr) (s : State) : Nat :=
  if readClass.contains i.form.mnemonic && [AddrMode.absX, .absY, .indY].contains i.form.mode then
    match memOperandOf i with
    | some o => (o.crossed s).toNat
    | none => 0
  else 0

/-- The condition of a branch, `none` for every other mnemonic (46_control.md R261 to R268). -/
def branchCondition (m : Mnemonic) (s : State) : Option Bool :=
  if m = .bpl then some (!s.flag .n) else if m = .bmi then some (s.flag .n)
  else if m = .bvc then some (!s.flag .v) else if m = .bvs then some (s.flag .v)
  else if m = .bcc then some (!s.flag .c) else if m = .bcs then some (s.flag .c)
  else if m = .bne then some (!s.flag .z) else if m = .beq then some (s.flag .z)
  else none

/-- `branch_extra` of 41_execution_engine.md R153: 0 if not taken, 1 if taken to the page of the following address, 2 if
taken across a page (46_control.md R260). -/
def branchExtra (i : Instr) (s : State) : Nat :=
  match branchCondition i.form.mnemonic s, i.operandBytes with
  | some true, [off] => 1 + (pageCrossed (s.pc + 2) (s.pc + 2 + sext off)).toNat
  | _, _ => 0

/-! ### Flags after an instruction -/

/-- Every bit of P after: N and Z from a result byte (10_state.md R40), the others as before. -/
def FlagsNZ (s t : State) (v : Byte) : Prop :=
  ∀ f, t.flag f = match f with
    | .n => v.getLsbD 7
    | .z => v == 0
    | .v | .one | .b | .d | .i | .c => s.flag f

/-- Every bit of P after: C as given, N and Z from a result byte, the others as before. -/
def FlagsNZC (s t : State) (v : Byte) (c : Bool) : Prop :=
  ∀ f, t.flag f = match f with
    | .n => v.getLsbD 7
    | .z => v == 0
    | .c => c
    | .v | .one | .b | .d | .i => s.flag f

/-- Every bit of P after: N, V, Z and C as given, the others as before. -/
def FlagsNVZC (s t : State) (n v z c : Bool) : Prop :=
  ∀ f, t.flag f = match f with
    | .n => n
    | .v => v
    | .z => z
    | .c => c
    | .one | .b | .d | .i => s.flag f

/-- Every bit of P after: one flag as given, the others as before. -/
def FlagsOnly (s t : State) (g : Flag) (on : Bool) : Prop :=
  ∀ f, t.flag f = if f = g then on else s.flag f

/-- Every bit of P after PLP or RTI: from the pulled byte, but B 0 and bit 5 set (43_stack.md R203). -/
def FlagsPulled (t : State) (v : Byte) : Prop :=
  ∀ f, t.flag f = match f with
    | .one => true
    | .b => false
    | .n | .v | .d | .i | .z | .c => flagOf v f

/-! ### Operands -/

/-- What a read-modify-write leaves where its operand came from, and that it leaves A and every other cell alone
(40_addressing_modes.md R136). -/
def WrittenBack (o : RmwOperand) (s t : State) (r : Byte) : Prop :=
  match o with
  | .acc => t.a = r ∧ ∀ b, t.read b = s.read b
  | .mem m => t.a = s.a ∧ ∀ b, t.read b = if b = m.ea s then r else s.read b

/-- Both nibbles are decimal digits: valid packed BCD (44_arithmetic.md R211). -/
def IsBcd (b : Byte) : Prop := b.toNat / 16 < 10 ∧ b.toNat % 16 < 10

/-- The number two BCD digits stand for. -/
def bcdValue (b : Byte) : Nat := b.toNat / 16 * 10 + b.toNat % 16

/-! ### The forms of the mnemonics with several modes: instruction, operand and base cycles (30_encoding.md R97) -/

/-- An instruction that reads an operand. -/
structure ReadForm where
  instr : Instr
  operand : ReadOperand
  cycles : Nat

/-- An instruction that reads an operand into or against a register. -/
structure RegReadForm where
  instr : Instr
  reg : Reg
  operand : ReadOperand
  cycles : Nat

/-- An instruction that stores a register. -/
structure StoreForm where
  instr : Instr
  reg : Reg
  operand : MemOperand
  cycles : Nat

/-- An instruction that works on A or on a cell in place. -/
structure ModifyForm where
  instr : Instr
  operand : RmwOperand
  cycles : Nat

/-- A conditional branch: its opcode, the flag it tests and the value on which it is taken. -/
structure BranchForm where
  instr : Instr
  opcode : Byte
  flag : Flag
  taken : Bool

/-- LDA, LDX and LDY (42_load_store_transfer.md R170 to R172). -/
def loadForms (v a : Byte) (w : Addr) : List RegReadForm :=
  [⟨.ldaImm v, .a, .imm v, 2⟩, ⟨.ldaZp a, .a, .mem (.zp a), 3⟩, ⟨.ldaZpX a, .a, .mem (.zpX a), 4⟩,
   ⟨.ldaAbs w, .a, .mem (.abs w), 4⟩, ⟨.ldaAbsX w, .a, .mem (.absX w), 4⟩, ⟨.ldaAbsY w, .a, .mem (.absY w), 4⟩,
   ⟨.ldaIndX a, .a, .mem (.indX a), 6⟩, ⟨.ldaIndY a, .a, .mem (.indY a), 5⟩] ++
  [⟨.ldxImm v, .x, .imm v, 2⟩, ⟨.ldxZp a, .x, .mem (.zp a), 3⟩, ⟨.ldxZpY a, .x, .mem (.zpY a), 4⟩,
   ⟨.ldxAbs w, .x, .mem (.abs w), 4⟩, ⟨.ldxAbsY w, .x, .mem (.absY w), 4⟩] ++
  [⟨.ldyImm v, .y, .imm v, 2⟩, ⟨.ldyZp a, .y, .mem (.zp a), 3⟩, ⟨.ldyZpX a, .y, .mem (.zpX a), 4⟩,
   ⟨.ldyAbs w, .y, .mem (.abs w), 4⟩, ⟨.ldyAbsX w, .y, .mem (.absX w), 4⟩]

/-- STA, STX and STY (42_load_store_transfer.md R173 to R175). -/
def storeForms (a : Byte) (w : Addr) : List StoreForm :=
  [⟨.staZp a, .a, .zp a, 3⟩, ⟨.staZpX a, .a, .zpX a, 4⟩, ⟨.staAbs w, .a, .abs w, 4⟩, ⟨.staAbsX w, .a, .absX w, 5⟩,
   ⟨.staAbsY w, .a, .absY w, 5⟩, ⟨.staIndX a, .a, .indX a, 6⟩, ⟨.staIndY a, .a, .indY a, 6⟩] ++
  [⟨.stxZp a, .x, .zp a, 3⟩, ⟨.stxZpY a, .x, .zpY a, 4⟩, ⟨.stxAbs w, .x, .abs w, 4⟩] ++
  [⟨.styZp a, .y, .zp a, 3⟩, ⟨.styZpX a, .y, .zpX a, 4⟩, ⟨.styAbs w, .y, .abs w, 4⟩]

/-- ADC (44_arithmetic.md R210). -/
def adcForms (v a : Byte) (w : Addr) : List ReadForm :=
  [⟨.adcImm v, .imm v, 2⟩, ⟨.adcZp a, .mem (.zp a), 3⟩, ⟨.adcZpX a, .mem (.zpX a), 4⟩,
   ⟨.adcAbs w, .mem (.abs w), 4⟩, ⟨.adcAbsX w, .mem (.absX w), 4⟩, ⟨.adcAbsY w, .mem (.absY w), 4⟩,
   ⟨.adcIndX a, .mem (.indX a), 6⟩, ⟨.adcIndY a, .mem (.indY a), 5⟩]

/-- SBC (44_arithmetic.md R212). -/
def sbcForms (v a : Byte) (w : Addr) : List ReadForm :=
  [⟨.sbcImm v, .imm v, 2⟩, ⟨.sbcZp a, .mem (.zp a), 3⟩, ⟨.sbcZpX a, .mem (.zpX a), 4⟩,
   ⟨.sbcAbs w, .mem (.abs w), 4⟩, ⟨.sbcAbsX w, .mem (.absX w), 4⟩, ⟨.sbcAbsY w, .mem (.absY w), 4⟩,
   ⟨.sbcIndX a, .mem (.indX a), 6⟩, ⟨.sbcIndY a, .mem (.indY a), 5⟩]

/-- AND (45_logic_shift.md R240). -/
def andForms (v a : Byte) (w : Addr) : List ReadForm :=
  [⟨.andImm v, .imm v, 2⟩, ⟨.andZp a, .mem (.zp a), 3⟩, ⟨.andZpX a, .mem (.zpX a), 4⟩,
   ⟨.andAbs w, .mem (.abs w), 4⟩, ⟨.andAbsX w, .mem (.absX w), 4⟩, ⟨.andAbsY w, .mem (.absY w), 4⟩,
   ⟨.andIndX a, .mem (.indX a), 6⟩, ⟨.andIndY a, .mem (.indY a), 5⟩]

/-- ORA (45_logic_shift.md R241). -/
def oraForms (v a : Byte) (w : Addr) : List ReadForm :=
  [⟨.oraImm v, .imm v, 2⟩, ⟨.oraZp a, .mem (.zp a), 3⟩, ⟨.oraZpX a, .mem (.zpX a), 4⟩,
   ⟨.oraAbs w, .mem (.abs w), 4⟩, ⟨.oraAbsX w, .mem (.absX w), 4⟩, ⟨.oraAbsY w, .mem (.absY w), 4⟩,
   ⟨.oraIndX a, .mem (.indX a), 6⟩, ⟨.oraIndY a, .mem (.indY a), 5⟩]

/-- EOR (45_logic_shift.md R242). -/
def eorForms (v a : Byte) (w : Addr) : List ReadForm :=
  [⟨.eorImm v, .imm v, 2⟩, ⟨.eorZp a, .mem (.zp a), 3⟩, ⟨.eorZpX a, .mem (.zpX a), 4⟩,
   ⟨.eorAbs w, .mem (.abs w), 4⟩, ⟨.eorAbsX w, .mem (.absX w), 4⟩, ⟨.eorAbsY w, .mem (.absY w), 4⟩,
   ⟨.eorIndX a, .mem (.indX a), 6⟩, ⟨.eorIndY a, .mem (.indY a), 5⟩]

/-- BIT (45_logic_shift.md R243). -/
def bitForms (a : Byte) (w : Addr) : List ReadForm :=
  [⟨.bitZp a, .mem (.zp a), 3⟩, ⟨.bitAbs w, .mem (.abs w), 4⟩]

/-- CMP, CPX and CPY (44_arithmetic.md R215 to R217). -/
def compareForms (v a : Byte) (w : Addr) : List RegReadForm :=
  [⟨.cmpImm v, .a, .imm v, 2⟩, ⟨.cmpZp a, .a, .mem (.zp a), 3⟩, ⟨.cmpZpX a, .a, .mem (.zpX a), 4⟩,
   ⟨.cmpAbs w, .a, .mem (.abs w), 4⟩, ⟨.cmpAbsX w, .a, .mem (.absX w), 4⟩, ⟨.cmpAbsY w, .a, .mem (.absY w), 4⟩,
   ⟨.cmpIndX a, .a, .mem (.indX a), 6⟩, ⟨.cmpIndY a, .a, .mem (.indY a), 5⟩] ++
  [⟨.cpxImm v, .x, .imm v, 2⟩, ⟨.cpxZp a, .x, .mem (.zp a), 3⟩, ⟨.cpxAbs w, .x, .mem (.abs w), 4⟩] ++
  [⟨.cpyImm v, .y, .imm v, 2⟩, ⟨.cpyZp a, .y, .mem (.zp a), 3⟩, ⟨.cpyAbs w, .y, .mem (.abs w), 4⟩]

/-- INC (44_arithmetic.md R218). -/
def incForms (a : Byte) (w : Addr) : List ModifyForm :=
  [⟨.incZp a, .mem (.zp a), 5⟩, ⟨.incZpX a, .mem (.zpX a), 6⟩, ⟨.incAbs w, .mem (.abs w), 6⟩,
   ⟨.incAbsX w, .mem (.absX w), 7⟩]

/-- DEC (44_arithmetic.md R219). -/
def decForms (a : Byte) (w : Addr) : List ModifyForm :=
  [⟨.decZp a, .mem (.zp a), 5⟩, ⟨.decZpX a, .mem (.zpX a), 6⟩, ⟨.decAbs w, .mem (.abs w), 6⟩,
   ⟨.decAbsX w, .mem (.absX w), 7⟩]

/-- ASL (45_logic_shift.md R244). -/
def aslForms (a : Byte) (w : Addr) : List ModifyForm :=
  [⟨.aslAcc, .acc, 2⟩, ⟨.aslZp a, .mem (.zp a), 5⟩, ⟨.aslZpX a, .mem (.zpX a), 6⟩, ⟨.aslAbs w, .mem (.abs w), 6⟩,
   ⟨.aslAbsX w, .mem (.absX w), 7⟩]

/-- LSR (45_logic_shift.md R245). -/
def lsrForms (a : Byte) (w : Addr) : List ModifyForm :=
  [⟨.lsrAcc, .acc, 2⟩, ⟨.lsrZp a, .mem (.zp a), 5⟩, ⟨.lsrZpX a, .mem (.zpX a), 6⟩, ⟨.lsrAbs w, .mem (.abs w), 6⟩,
   ⟨.lsrAbsX w, .mem (.absX w), 7⟩]

/-- ROL (45_logic_shift.md R246). -/
def rolForms (a : Byte) (w : Addr) : List ModifyForm :=
  [⟨.rolAcc, .acc, 2⟩, ⟨.rolZp a, .mem (.zp a), 5⟩, ⟨.rolZpX a, .mem (.zpX a), 6⟩, ⟨.rolAbs w, .mem (.abs w), 6⟩,
   ⟨.rolAbsX w, .mem (.absX w), 7⟩]

/-- ROR (45_logic_shift.md R247). -/
def rorForms (a : Byte) (w : Addr) : List ModifyForm :=
  [⟨.rorAcc, .acc, 2⟩, ⟨.rorZp a, .mem (.zp a), 5⟩, ⟨.rorZpX a, .mem (.zpX a), 6⟩, ⟨.rorAbs w, .mem (.abs w), 6⟩,
   ⟨.rorAbsX w, .mem (.absX w), 7⟩]

/-- The eight conditional branches (46_control.md R261 to R268). -/
def branchForms (off : Byte) : List BranchForm :=
  [⟨.bpl off, 0x10, .n, false⟩, ⟨.bmi off, 0x30, .n, true⟩, ⟨.bvc off, 0x50, .v, false⟩, ⟨.bvs off, 0x70, .v, true⟩,
   ⟨.bcc off, 0x90, .c, false⟩, ⟨.bcs off, 0xB0, .c, true⟩, ⟨.bne off, 0xD0, .z, false⟩, ⟨.beq off, 0xF0, .z, true⟩]

end Sys2Proof.Machine
end

