-- ==== Sys2Proof/Certificates/Slice0/Obligations.lean ====
section
/-!
DEFINITION. The statements for the provers. Each says which rules of spec/ it formalises. "Completes" means that exec
answers a next state; an equation `t = { s with … , p := t.p }` says that every part of the state not named is as
before, and the clauses after it say what the parts named `t.…` hold.
-/

open Sys2Proof Sys2Proof.Machine

/-! ### Encoding -/

/-- R90, R91, R93, R97, R99: every instruction, with every operand, is read back from its own bytes, whatever follows. -/
def Obligations.DecodeInvertsEncode : Prop :=
  ∀ (i : Instr) (rest : List Byte), decode (encode i ++ rest) = .ok (i, rest)

/-- R92, R93, R97: the bytes an instruction was read from are its encoding, so no two byte strings mean the same
instruction. -/
def Obligations.EncodeInvertsDecode : Prop :=
  ∀ (bytes rest : List Byte) (i : Instr), decode bytes = .ok (i, rest) → encode i ++ rest = bytes

/-- R95, R101: decoding rejects as illegal exactly the 105 listed opcode values, whatever bytes follow. -/
def Obligations.IllegalOpcodesAreExactlyTheListed : Prop :=
  illegalOpcodes.length = 105 ∧
    ∀ (op : Byte) (rest : List Byte), decode (op :: rest) = .error (.illegalOpcode op) ↔ op ∈ illegalOpcodes

/-- R94: the opcode byte alone fixes the form and the length, which is 1, 2 or 3. -/
def Obligations.LengthAndFormFromOpcodeAlone : Prop :=
  ∀ (op : Byte) (r r' q q' : List Byte) (i j : Instr), decode (op :: r) = .ok (i, r') → decode (op :: q) = .ok (j, q') →
    i.form = j.form ∧ i.length = j.length ∧ 1 ≤ i.length ∧ i.length ≤ 3 ∧ (op :: r).drop i.length = r' ∧
      i.length ≤ (op :: r).length

/-- R91, R93, R99: a word of each family, written out from the grid and the operand order, decodes to its instruction. -/
def Obligations.PublishedWordsDecode : Prop :=
  decode [0xBD, 0x34, 0x12] = .ok (.ldaAbsX 0x1234, []) ∧
  decode [0x91, 0x86] = .ok (.staIndY 0x86, []) ∧
  decode [0x9A] = .ok (.txs, []) ∧
  decode [0x28, 0xEA] = .ok (.plp, [0xEA]) ∧
  decode [0x69, 0x46] = .ok (.adcImm 0x46, []) ∧
  decode [0xDE, 0xFF, 0x20] = .ok (.decAbsX 0x20FF, []) ∧
  decode [0x41, 0x20] = .ok (.eorIndX 0x20, []) ∧
  decode [0x6A] = .ok (.rorAcc, []) ∧
  decode [0xD0, 0xFA] = .ok (.bne 0xFA, []) ∧
  decode [0x6C, 0xFF, 0x02] = .ok (.jmpInd 0x02FF, []) ∧
  decode [0x20, 0x00, 0x03] = .ok (.jsr 0x0300, []) ∧
  decode [0xF8] = .ok (.sed, [])

/-! ### The engine -/

/-- R151, R152: in Running, when the three bytes from PC on decode to an instruction, the step is exec of it at that very
state: exec itself moves PC past the instruction and charges CYC. -/
def Obligations.StepRunsTheDecodedInstruction : Prop :=
  ∀ (s : State) (i : Instr) (rest : List Byte), s.mode = .running →
    decode [s.read s.pc, s.read (s.pc + 1), s.read (s.pc + 2)] = .ok (i, rest) → step s = exec i s

/-- R90, R160: in Running, when memory holds an instruction's bytes from PC on, addresses mod 2^16, the step is exec of that
instruction. -/
def Obligations.EncodedBytesAtPcRun : Prop :=
  ∀ (s : State) (i : Instr), s.mode = .running →
    (∀ (k : Nat) (b : Byte), (encode i)[k]? = some b → s.read (s.pc + BitVec.ofNat 16 k) = b) → step s = exec i s

/-- R150: no step in Unreset and none in Halted, and in Running a step is never refused. -/
def Obligations.StepRefusedExactlyOutsideRunning : Prop :=
  ∀ s : State, (s.mode = .unreset → step s = .refused .unreset) ∧
    (∀ f, s.mode = .halted f → step s = .refused .halted) ∧
    (s.mode = .running → ∀ r, step s ≠ .refused r)

/-- R300, R304: in Running, an opcode byte without a descriptor ends the step with the fault that names its address and the
byte; the host then sees the state as it was before, but Halted with that fault. -/
def Obligations.IllegalOpcodeFaultsAndHalts : Prop :=
  ∀ s : State, s.mode = .running → s.read s.pc ∈ illegalOpcodes →
    step s = .fault (.illegalInstruction s.pc (s.read s.pc)) ∧
    hostStep s = { steps := 0, fault := some (.illegalInstruction s.pc (s.read s.pc)), refusal := none,
                   state := { s with mode := .halted (.illegalInstruction s.pc (s.read s.pc)) } }

/-- R306: in Running, a step either faults on an illegal opcode or completes, still Running; nothing else can happen. -/
def Obligations.RunningStepCompletesOrFaults : Prop :=
  ∀ s : State, s.mode = .running →
    (s.read s.pc ∉ illegalOpcodes → ∃ t, step s = .next t ∧ t.mode = .running) ∧
    (s.read s.pc ∈ illegalOpcodes → ∃ f, step s = .fault f)

/-- R37, R38 and the canonical form of memory: the invariant is kept by every step that completes, from every state
that meets it. -/
def Obligations.StepKeepsInvariant : Prop :=
  ∀ s t : State, s.Inv → step s = .next t → t.Inv

/-- R46: "bit 5 is 1 and bit 4 is 0 after reset", whatever RESET_P, and reset leaves memory canonical. -/
def Obligations.ResetMeetsInvariant : Prop :=
  State.reset.Inv ∧ ∀ (s : State) (cfg : Config), s.mem.wf = true → (s.resetOp cfg).Inv

/-- R153: every instruction completes, and CYC grows by its base count of R97, the page penalty and the branch extra;
a step at an illegal opcode charges nothing. -/
def Obligations.EveryInstructionCompletesAndChargesItsCycles : Prop :=
  (∀ (i : Instr) (s : State), ∃ t, exec i s = .next t ∧
    t.cyc = s.cyc + i.baseCycles + pagePenalty i s + branchExtra i s) ∧
  ∀ s : State, s.read s.pc ∈ illegalOpcodes → (hostStep s).state.cyc = s.cyc

/-- R36: an instruction that does not transfer control leaves PC at the address after its bytes, mod 2^16. -/
def Obligations.PcMovesPastTheInstruction : Prop :=
  ∀ (i : Instr) (s t : State), i.form.mnemonic ∉ controlTransfers → exec i s = .next t →
    t.pc = s.pc + BitVec.ofNat 16 (encode i).length

/-- R39: no instruction but those listed for a flag changes it; B and bit 5 are changed by none. -/
def Obligations.FlagsWrittenOnlyByTheirWriters : Prop :=
  ∀ (i : Instr) (s t : State) (f : Flag), s.Inv → exec i s = .next t → i.form.mnemonic ∉ flagWriters f →
    t.flag f = s.flag f

/-- R32 to R35: no instruction but those listed for a register changes it; and no instruction changes Mode. -/
def Obligations.RegistersWrittenOnlyByTheirWriters : Prop :=
  ∀ (i : Instr) (s t : State), exec i s = .next t →
    (∀ r, writesReg r i.form = false → t.get r = s.get r) ∧ t.mode = s.mode

/-- R77, R136, R66: every cell is unchanged but those the instruction stores to: the effective address of a store or of a
read-modify-write on memory, the stack cells of its pushes, and no cell for every other instruction. -/
def Obligations.MemoryWrittenOnlyWhereStored : Prop :=
  ∀ (i : Instr) (s t : State) (b : Addr), exec i s = .next t → b ∉ storedAt i s → t.read b = s.read b

/-- R42, R341: no instruction reads CYC: from a state that differs in CYC only, the result differs in CYC only, by as much. -/
def Obligations.CycIsReadByNoInstruction : Prop :=
  ∀ (i : Instr) (s t : State) (n : Nat), exec i s = .next t →
    exec i { s with cyc := s.cyc + n } = .next { t with cyc := t.cyc + n }

/-- R41: an instruction that is not listed as a reader of a flag does the same whatever that flag holds: every register,
every cell, CYC and every other flag come out equal. -/
def Obligations.FlagsReadOnlyByTheirReaders : Prop :=
  ∀ (i : Instr) (s t : State) (f : Flag) (on : Bool), i.form.mnemonic ∉ flagReaders f → exec i s = .next t →
    ∃ u, exec i (s.putFlag f on) = .next u ∧ u = { t with p := u.p } ∧ ∀ g, g ≠ f → u.flag g = t.flag g

/-- R157: run(n) from Running completes n steps, or stops at the first Illegal-Instruction with fewer: then the state
after the steps it reports is one where the next step faults, and the host sees that state but Halted (R159, R300). -/
def Obligations.RunStopsAtBudgetOrFault : Prop :=
  ∀ (n : Nat) (s : State), s.mode = .running →
    (runHost n s).refusal = none ∧
    ((runHost n s).fault = none →
      (runHost n s).steps = n ∧ core.run n s = .next (runHost n s).state ∧ (runHost n s).state.mode = .running) ∧
    (∀ f, (runHost n s).fault = some f →
      (runHost n s).steps < n ∧ core.run n s = .fault f ∧
      ∃ u, core.run (runHost n s).steps s = .next u ∧ step u = .fault f ∧
        (runHost n s).state = { u with mode := .halted f })

/-! ### Reset and the host -/

/-- R330, R331: reset() from any state, in any Mode, and with any parameters; the default ones. -/
def Obligations.ResetSetsEveryRegister : Prop :=
  ∀ (s : State) (cfg : Config),
    s.resetOp cfg = { a := 0x00, x := 0x00, y := 0x00, sp := 0xFF, p := (s.resetOp cfg).p, cyc := 7, mem := s.mem,
                      mode := .running,
                      pc := match cfg.resetPcSource with
                        | .vector => addrOf (s.read 0xFFFD) (s.read 0xFFFC)
                        | .fixed a => a } ∧
    FlagsPulled (s.resetOp cfg) cfg.resetP ∧ ({} : Config) = ⟨0x24, .vector⟩

/-- R46, R73, R333: State.reset is reset() with the default parameters on zero-filled memory, from whatever registers and
Mode, and its first step is BRK at 0x0000, which vectors to 0x0000 again. That State.reset lists no memory is the model's
reading of "created zero-filled" (log entries 3 and 5). -/
def Obligations.ResetStateIsResetOfZeroFilledMemory : Prop :=
  (∀ s : State, s.mem = Memory.zeroFilled → s.resetOp {} = State.reset) ∧
  ∃ t, step State.reset = .next t ∧ t.pc = 0x0000 ∧ t.sp = 0xFC ∧ t.p = 0x24 ∧ t.cyc = 14 ∧
    t.read 0x01FF = 0x00 ∧ t.read 0x01FE = 0x02 ∧ t.read 0x01FD = 0x34

/-- R72: load stores byte i of a 65,536-byte image in cell i and changes nothing else; an image of any other length is
reported, and the host keeps the state it had. -/
def Obligations.LoadReplacesTheWholeMemory : Prop :=
  ∀ (s : State) (image : List Byte),
    (image.length = 65536 → ∃ t, s.hostLoad image = .ok t ∧ t = { s with mem := t.mem } ∧ t.mem.wf = true ∧
      ∀ b : Addr, image[b.toNat]? = some (t.read b)) ∧
    (image.length ≠ 65536 → s.hostLoad image = .error (.imageSizeMismatch image.length))

/-- R72: dump gives back the image that load stored, and otherwise 65,536 cells in address order. -/
def Obligations.DumpGivesTheCellsInOrder : Prop :=
  (∀ (s : State), s.dump.length = 65536 ∧ ∀ b : Addr, s.dump[b.toNat]? = some (s.read b)) ∧
  ∀ (s t : State) (image : List Byte), s.hostLoad image = .ok t → t.dump = image

/-- R43, R158: the registers can be read in every Mode but Unreset. -/
def Obligations.RegistersReadableOnceReset : Prop :=
  ∀ s : State, (s.mode = .unreset → s.hostReadRegs = none) ∧
    (s.mode ≠ .unreset → s.hostReadRegs = some ⟨s.a, s.x, s.y, s.sp, s.pc, s.p, s.cyc⟩)

/-! ### Memory and addressing -/

/-- R60: memory is its 65,536 cells and nothing more: canonical memories that read alike are equal data. -/
def Obligations.EqualCellsAreEqualMemories : Prop :=
  ∀ m m' : Memory, m.wf = true → m'.wf = true → (∀ b : Addr, Memory.read m b.toNat = Memory.read m' b.toNat) → m = m'

/-- R62, R71: a byte that STA stores is what LDA then loads from that address, and every other address loads what it held
before. -/
def Obligations.StoreThenLoadReadsBack : Prop :=
  ∀ (w w' : Addr) (s : State), s.Inv → ∃ t u, exec (.staAbs w) s = .next t ∧ exec (.ldaAbs w') t = .next u ∧
    u.a = if w' = w then s.a else s.read w'

/-- R124, R125: the zero-page modes give an address in page 0, the index wrapping within it, and never cross. -/
def Obligations.ZeroPageModesStayInPageZero : Prop :=
  ∀ (a : Byte) (s : State),
    (((MemOperand.zp a).ea s).toNat = a.toNat ∧ (MemOperand.zp a).crossed s = false) ∧
    (((MemOperand.zpX a).ea s).toNat = (a.toNat + s.x.toNat) % 256 ∧ (MemOperand.zpX a).crossed s = false) ∧
    (((MemOperand.zpY a).ea s).toNat = (a.toNat + s.y.toNat) % 256 ∧ (MemOperand.zpY a).crossed s = false)

/-- R126, R127, R128, R130: the absolute modes add an unsigned index mod 2^16 and report whether the page changes. -/
def Obligations.AbsoluteModesAddTheIndex : Prop :=
  ∀ (w : Addr) (s : State),
    ((MemOperand.abs w).ea s = w ∧ (MemOperand.abs w).crossed s = false) ∧
    (((MemOperand.absX w).ea s).toNat = (w.toNat + s.x.toNat) % 65536 ∧
      (MemOperand.absX w).crossed s = decide (w.toNat / 256 ≠ (w.toNat + s.x.toNat) % 65536 / 256)) ∧
    (((MemOperand.absY w).ea s).toNat = (w.toNat + s.y.toNat) % 65536 ∧
      (MemOperand.absY w).crossed s = decide (w.toNat / 256 ≠ (w.toNat + s.y.toNat) % 65536 / 256))

/-- R132, R133, R134: the indirect modes take the pointer from page 0, its second byte wrapping within page 0; (zp),Y adds
Y mod 2^16 and reports whether the page changes. -/
def Obligations.PointerModesReadPageZero : Prop :=
  ∀ (a : Byte) (s : State),
    (let p := (a.toNat + s.x.toNat) % 256
     ((MemOperand.indX a).ea s).toNat = (Memory.read s.mem p).toNat + 256 * (Memory.read s.mem ((p + 1) % 256)).toNat ∧
       (MemOperand.indX a).crossed s = false) ∧
    (let base := (Memory.read s.mem a.toNat).toNat + 256 * (Memory.read s.mem ((a.toNat + 1) % 256)).toNat
     ((MemOperand.indY a).ea s).toNat = (base + s.y.toNat) % 65536 ∧
       (MemOperand.indY a).crossed s = decide (base / 256 ≠ (base + s.y.toNat) % 65536 / 256))

/-! ### Loads, stores, transfers -/

/-- R170, R171, R172: LDA, LDX and LDY in every mode. -/
def Obligations.LoadsWriteTheirRegister : Prop :=
  ∀ (v a : Byte) (w : Addr) (s : State), ∀ f ∈ loadForms v a w, ∃ t, exec f.instr s = .next t ∧
    t = { s.set f.reg (f.operand.value s) with
          p := t.p, pc := s.pc + BitVec.ofNat 16 f.operand.length, cyc := s.cyc + f.cycles + f.operand.penalty s } ∧
    FlagsNZ s t (f.operand.value s)

/-- R173, R174, R175: STA, STX and STY in every mode write the register to the effective address and nothing else. -/
def Obligations.StoresWriteTheEffectiveAddress : Prop :=
  ∀ (a : Byte) (w : Addr) (s : State), s.Inv → ∀ f ∈ storeForms a w, ∃ t, exec f.instr s = .next t ∧
    t = { s with mem := t.mem, pc := s.pc + BitVec.ofNat 16 f.operand.length, cyc := s.cyc + f.cycles } ∧
    ∀ b, t.read b = if b = f.operand.ea s then s.get f.reg else s.read b

/-- R176 to R180: TAX, TAY, TXA, TYA and TSX. -/
def Obligations.TransfersCopyAndSetNZ : Prop :=
  ∀ s : State, ∀ f ∈ ([(.tax, 0xAA, .a, .x), (.tay, 0xA8, .a, .y), (.txa, 0x8A, .x, .a), (.tya, 0x98, .y, .a),
      (.tsx, 0xBA, .sp, .x)] : List (Instr × Byte × Reg × Reg)),
    encode f.1 = [f.2.1] ∧ ∃ t, exec f.1 s = .next t ∧
      t = { s.set f.2.2.2 (s.get f.2.2.1) with p := t.p, pc := s.pc + 1, cyc := s.cyc + 2 } ∧
      FlagsNZ s t (s.get f.2.2.1)

/-- R181: TXS writes SP and no flag. -/
def Obligations.TxsWritesNoFlag : Prop :=
  ∀ s : State, encode .txs = [0x9A] ∧ exec .txs s = .next { s with sp := s.x, pc := s.pc + 1, cyc := s.cyc + 2 }

/-! ### Stack -/

/-- R200, R201, R66: PHA and PHP write the byte at 0x0100 + SP, then decrement SP within the page. -/
def Obligations.PushesWriteThenDecrement : Prop :=
  ∀ s : State, s.Inv → ∀ f ∈ ([(.pha, 0x48, s.a), (.php, 0x08, s.p ||| 0x30)] : List (Instr × Byte × Byte)),
    encode f.1 = [f.2.1] ∧ ∃ t, exec f.1 s = .next t ∧
      t = { s with sp := s.sp - 1, mem := t.mem, pc := s.pc + 1, cyc := s.cyc + 3 } ∧
      ∀ b, t.read b = if b = 0x0100 + zext s.sp then f.2.2 else s.read b

/-- R202, R67: PLA increments SP within the page, then reads A at 0x0100 + SP, with N and Z. -/
def Obligations.PlaIncrementsThenReads : Prop :=
  ∀ s : State, encode .pla = [0x68] ∧ ∃ t, exec .pla s = .next t ∧
    t = { s with a := s.read (0x0100 + zext (s.sp + 1)), sp := s.sp + 1, p := t.p, pc := s.pc + 1, cyc := s.cyc + 4 } ∧
    FlagsNZ s t (s.read (0x0100 + zext (s.sp + 1)))

/-- R203: PLP takes every flag from the pulled byte but B, which is 0, and bit 5, which is 1. -/
def Obligations.PlpDiscardsBAndForcesBitFive : Prop :=
  ∀ s : State, encode .plp = [0x28] ∧ ∃ t, exec .plp s = .next t ∧
    t = { s with sp := s.sp + 1, p := t.p, pc := s.pc + 1, cyc := s.cyc + 4 } ∧
    FlagsPulled t (s.read (0x0100 + zext (s.sp + 1)))

/-- R203's corner case: PHP then PLP leaves P, SP and the other registers as they were. -/
def Obligations.PhpThenPlpRestoresStatus : Prop :=
  ∀ s : State, s.Inv → ∃ t u, exec .php s = .next t ∧ exec .plp t = .next u ∧
    u = { s with mem := t.mem, pc := s.pc + 2, cyc := s.cyc + 7 }

/-! ### Arithmetic -/

/-- R210: ADC in binary mode, in every mode of addressing: A is the sum mod 2^8, C the unsigned carry, V set exactly when the
signed sum lies outside -128..127. -/
def Obligations.AdcBinaryAddsWithCarry : Prop :=
  ∀ (v a : Byte) (w : Addr) (s : State), s.flag .d = false → ∀ f ∈ adcForms v a w,
    let m := f.operand.value s
    let c := (s.flag .c).toNat
    let sum := s.a.toNat + m.toNat + c
    let signed : Int := s.a.toInt + m.toInt + c
    ∃ t, exec f.instr s = .next t ∧
      t = { s with a := BitVec.ofNat 8 sum, p := t.p, pc := s.pc + BitVec.ofNat 16 f.operand.length,
                   cyc := s.cyc + f.cycles + f.operand.penalty s } ∧
      FlagsNVZC s t (decide (128 ≤ sum % 256)) (decide (signed < -128 ∨ 127 < signed)) (decide (sum % 256 = 0))
        (decide (255 < sum))

/-- R211: ADC in decimal mode, the NMOS algorithm for all operands; for valid packed BCD the decimal sum mod 100, with C its
carry. -/
def Obligations.AdcDecimalFollowsTheNmosAlgorithm : Prop :=
  ∀ (v a : Byte) (w : Addr) (s : State), s.flag .d = true → ∀ f ∈ adcForms v a w,
    let m := f.operand.value s
    let c := (s.flag .c).toNat
    let al0 := s.a.toNat % 16 + m.toNat % 16 + c
    let al := if 10 ≤ al0 then (al0 + 6) % 16 + 16 else al0
    let s1 := s.a.toNat / 16 * 16 + m.toNat / 16 * 16 + al
    let s2 : Int := (s.a &&& 0xF0).toInt + (m &&& 0xF0).toInt + al
    let sum := if 160 ≤ s1 then s1 + 96 else s1
    ∃ t, exec f.instr s = .next t ∧
      t = { s with a := BitVec.ofNat 8 sum, p := t.p, pc := s.pc + BitVec.ofNat 16 f.operand.length,
                   cyc := s.cyc + f.cycles + f.operand.penalty s } ∧
      FlagsNVZC s t (decide (128 ≤ s2 % 256)) (decide (s2 < -128 ∨ 127 < s2))
        (decide ((s.a.toNat + m.toNat + c) % 256 = 0)) (decide (256 ≤ sum)) ∧
      (IsBcd s.a → IsBcd m → IsBcd t.a ∧ bcdValue t.a = (bcdValue s.a + bcdValue m + c) % 100 ∧
        t.flag .c = decide (100 ≤ bcdValue s.a + bcdValue m + c))

/-- R212: SBC's flags in both modes, A in binary mode, and that binary SBC is ADC of the complement. -/
def Obligations.SbcSubtractsWithBorrow : Prop :=
  ∀ (v a : Byte) (w : Addr) (s : State), (∀ f ∈ sbcForms v a w,
    let m := f.operand.value s
    let c := (s.flag .c).toNat
    let d : Int := (s.a.toNat : Int) - m.toNat - (1 - c)
    let signed : Int := s.a.toInt - m.toInt - (1 - c)
    ∃ t, exec f.instr s = .next t ∧
      t = { s with a := t.a, p := t.p, pc := s.pc + BitVec.ofNat 16 f.operand.length,
                   cyc := s.cyc + f.cycles + f.operand.penalty s } ∧
      (s.flag .d = false → t.a = BitVec.ofInt 8 d) ∧
      FlagsNVZC s t (decide (128 ≤ d % 256)) (decide (signed < -128 ∨ 127 < signed)) (decide (d % 256 = 0))
        (decide (0 ≤ d))) ∧
    (s.flag .d = false → exec (.sbcImm v) s = exec (.adcImm (~~~v)) s)

/-- R213: A after SBC in decimal mode, the NMOS algorithm for all operands, with the flags of R212 (they do not depend on D);
for valid packed BCD the decimal difference mod 100, with C clear exactly on a decimal borrow. -/
def Obligations.SbcDecimalFollowsTheNmosAlgorithm : Prop :=
  ∀ (v a : Byte) (w : Addr) (s : State), s.flag .d = true → ∀ f ∈ sbcForms v a w,
    let m := f.operand.value s
    let c := (s.flag .c).toNat
    let al0 : Int := (s.a.toNat % 16 : Nat) - (m.toNat % 16 : Nat) + c - 1
    let al : Int := if al0 < 0 then (al0 - 6) % 16 - 16 else al0
    let r : Int := (s.a.toNat / 16 * 16 : Nat) - (m.toNat / 16 * 16 : Nat) + al
    ∃ t t', exec f.instr s = .next t ∧ exec f.instr (s.putFlag .d false) = .next t' ∧
      t.a = BitVec.ofInt 8 (if r < 0 then r - 96 else r) ∧
      (∀ g, g ≠ .d → t.flag g = t'.flag g) ∧ t.flag .d = true ∧
      (IsBcd s.a → IsBcd m → IsBcd t.a ∧
        (bcdValue t.a : Int) = ((bcdValue s.a : Int) - bcdValue m - (1 - c)) % 100 ∧
        t.flag .c = decide (0 ≤ (bcdValue s.a : Int) - bcdValue m - (1 - c)))

/-- R214 to R217: CMP, CPX and CPY in every mode write N, Z and C from the difference and nothing else. -/
def Obligations.ComparesWriteOnlyNZC : Prop :=
  ∀ (v a : Byte) (w : Addr) (s : State), ∀ f ∈ compareForms v a w, ∃ t, exec f.instr s = .next t ∧
    t = { s with p := t.p, pc := s.pc + BitVec.ofNat 16 f.operand.length,
                 cyc := s.cyc + f.cycles + f.operand.penalty s } ∧
    FlagsNZC s t (s.get f.reg - f.operand.value s) (decide ((f.operand.value s).toNat ≤ (s.get f.reg).toNat))

/-- R218, R219: INC and DEC in every mode, in place, N and Z only. -/
def Obligations.IncAndDecWorkInPlace : Prop :=
  ∀ (a : Byte) (w : Addr) (s : State), s.Inv →
    (∀ f ∈ incForms a w, ∃ t, exec f.instr s = .next t ∧
      t = { s with mem := t.mem, p := t.p, pc := s.pc + BitVec.ofNat 16 f.operand.length, cyc := s.cyc + f.cycles } ∧
      WrittenBack f.operand s t (f.operand.value s + 1) ∧ FlagsNZ s t (f.operand.value s + 1)) ∧
    (∀ f ∈ decForms a w, ∃ t, exec f.instr s = .next t ∧
      t = { s with mem := t.mem, p := t.p, pc := s.pc + BitVec.ofNat 16 f.operand.length, cyc := s.cyc + f.cycles } ∧
      WrittenBack f.operand s t (f.operand.value s - 1) ∧ FlagsNZ s t (f.operand.value s - 1))

/-- R220 to R223: INX, INY, DEX and DEY. -/
def Obligations.IndexIncrementsAndDecrements : Prop :=
  ∀ s : State, ∀ f ∈ ([(.inx, 0xE8, .x, s.x + 1), (.iny, 0xC8, .y, s.y + 1), (.dex, 0xCA, .x, s.x - 1),
      (.dey, 0x88, .y, s.y - 1)] : List (Instr × Byte × Reg × Byte)),
    encode f.1 = [f.2.1] ∧ ∃ t, exec f.1 s = .next t ∧
      t = { s.set f.2.2.1 f.2.2.2 with p := t.p, pc := s.pc + 1, cyc := s.cyc + 2 } ∧ FlagsNZ s t f.2.2.2

/-! ### Logic, shifts, rotates -/

/-- R240, R241, R242: AND, ORA and EOR in every mode. -/
def Obligations.LogicalOperationsOnA : Prop :=
  ∀ (v a : Byte) (w : Addr) (s : State),
    ∀ g ∈ [(andForms v a w, fun m => s.a &&& m), (oraForms v a w, fun m => s.a ||| m), (eorForms v a w, fun m => s.a ^^^ m)],
    ∀ f ∈ g.1, ∃ t, exec f.instr s = .next t ∧
      t = { s with a := g.2 (f.operand.value s), p := t.p, pc := s.pc + BitVec.ofNat 16 f.operand.length,
                   cyc := s.cyc + f.cycles + f.operand.penalty s } ∧
      FlagsNZ s t (g.2 (f.operand.value s))

/-- R243: BIT takes N and V from the operand and Z from its AND with A, and writes nothing else. -/
def Obligations.BitTakesNVFromMemory : Prop :=
  ∀ (a : Byte) (w : Addr) (s : State), (encode (.bitZp a)).head? = some 0x24 ∧ (encode (.bitAbs w)).head? = some 0x2C ∧
    ∀ f ∈ bitForms a w, ∃ t, exec f.instr s = .next t ∧
    t = { s with p := t.p, pc := s.pc + BitVec.ofNat 16 f.operand.length, cyc := s.cyc + f.cycles } ∧
    FlagsNVZC s t ((f.operand.value s).getLsbD 7) ((f.operand.value s).getLsbD 6) (s.a &&& f.operand.value s == 0)
      (s.flag .c)

/-- R244 to R248: ASL, LSR, ROL and ROR in every mode, as arithmetic: the bit shifted out goes to C, and 0 or the old C comes
in. -/
def Obligations.ShiftsAndRotatesMoveThroughCarry : Prop :=
  ∀ (a : Byte) (w : Addr) (s : State), s.Inv →
    let c := (s.flag .c).toNat
    (encode .aslAcc = [0x0A] ∧ encode .lsrAcc = [0x4A] ∧ encode .rolAcc = [0x2A] ∧ encode .rorAcc = [0x6A]) ∧
    ∀ g ∈ ([(aslForms a w, fun v => (2 * v, decide (128 ≤ v))), (lsrForms a w, fun v => (v / 2, decide (v % 2 = 1))),
        (rolForms a w, fun v => (2 * v + c, decide (128 ≤ v))),
        (rorForms a w, fun v => (v / 2 + 128 * c, decide (v % 2 = 1)))] : List (List ModifyForm × (Nat → Nat × Bool))),
    ∀ f ∈ g.1,
      let res := g.2 (f.operand.value s).toNat
      ∃ t, exec f.instr s = .next t ∧
        t = { s with a := t.a, mem := t.mem, p := t.p, pc := s.pc + BitVec.ofNat 16 f.operand.length,
                     cyc := s.cyc + f.cycles } ∧
        WrittenBack f.operand s t (BitVec.ofNat 8 res.1) ∧ FlagsNZC s t (BitVec.ofNat 8 res.1) res.2

/-! ### Control transfer -/

/-- R131, R260 to R269: the eight branches: 2 cycles and the following address when not taken; when taken the following
address plus the signed offset, at 3 cycles, or 4 when the page changes. -/
def Obligations.BranchesTakeTheirTarget : Prop :=
  ∀ (off : Byte) (s : State), ∀ f ∈ branchForms off,
    let target := BitVec.ofInt 16 ((s.pc + 2).toNat + off.toInt)
    encode f.instr = [f.opcode, off] ∧
    exec f.instr s = .next (if s.flag f.flag = f.taken then
        { s with pc := target, cyc := s.cyc + (if (s.pc + 2).toNat / 256 = target.toNat / 256 then 3 else 4) }
      else { s with pc := s.pc + 2, cyc := s.cyc + 2 })

/-- R129, R270: JMP absolute and JMP indirect, whose pointer's high byte comes from the pointer's own page. -/
def Obligations.JumpsSetPc : Prop :=
  ∀ (w : Addr) (s : State),
    (encode (.jmpAbs w)).head? = some 0x4C ∧ (encode (.jmpInd w)).head? = some 0x6C ∧
    exec (.jmpAbs w) s = .next { s with pc := w, cyc := s.cyc + 3 } ∧
    exec (.jmpInd w) s = .next { s with
      pc := addrOf (s.read (BitVec.ofNat 16 (w.toNat / 256 * 256 + (w.toNat + 1) % 256))) (s.read w), cyc := s.cyc + 5 }

/-- R271 as exec has it: JSR pushes the address of its last byte, high byte first, and takes the high byte of its target from
memory after the pushes; the low byte is the decoded operand's (log entry 6). -/
def Obligations.JsrPushesItsLastAddress : Prop :=
  ∀ (w : Addr) (s : State), s.Inv → ∃ t, exec (.jsr w) s = .next t ∧
    t = { s with sp := s.sp - 2, mem := t.mem, pc := addrOf (t.read (s.pc + 2)) (loByte w), cyc := s.cyc + 6 } ∧
    ∀ b, t.read b = if b = 0x0100 + zext s.sp then hiByte (s.pc + 2)
      else if b = 0x0100 + zext (s.sp - 1) then loByte (s.pc + 2) else s.read b

/-- R271, as a whole step from the bytes in memory: the low target byte is read before the pushes, the high one after. -/
def Obligations.JsrStepReadsItsHighByteLate : Prop :=
  ∀ s : State, s.Inv → s.mode = .running → s.read s.pc = 0x20 → ∃ t, step s = .next t ∧
    t = { s with sp := s.sp - 2, mem := t.mem, pc := addrOf (t.read (s.pc + 2)) (s.read (s.pc + 1)), cyc := s.cyc + 6 } ∧
    ∀ b, t.read b = if b = 0x0100 + zext s.sp then hiByte (s.pc + 2)
      else if b = 0x0100 + zext (s.sp - 1) then loByte (s.pc + 2) else s.read b

/-- R272: RTS pulls the low byte, then the high byte, and adds 1. -/
def Obligations.RtsPullsAndAddsOne : Prop :=
  ∀ s : State, encode .rts = [0x60] ∧ exec .rts s = .next { s with
    sp := s.sp + 2, pc := addrOf (s.read (0x0100 + zext (s.sp + 2))) (s.read (0x0100 + zext (s.sp + 1))) + 1,
    cyc := s.cyc + 6 }

/-- R271, R272: RTS after JSR, wherever the subroutine ends, returns to the instruction after the JSR with SP as it was. -/
def Obligations.RtsReturnsAfterJsr : Prop :=
  ∀ (w q : Addr) (s : State), s.Inv → ∃ t u, exec (.jsr w) s = .next t ∧ exec .rts { t with pc := q } = .next u ∧
    u = { s with mem := t.mem, pc := s.pc + 3, cyc := s.cyc + 12 }

/-- R274, R302: BRK pushes its address + 2 and P with B and bit 5 set, sets I and no other flag, and goes where the BRK
vector points. -/
def Obligations.BrkTakesTheTrap : Prop :=
  ∀ s : State, s.Inv → encode .brk = [0x00] ∧ ∃ t, exec .brk s = .next t ∧
    t = { s with sp := s.sp - 3, p := t.p, mem := t.mem, pc := addrOf (s.read 0xFFFF) (s.read 0xFFFE),
                 cyc := s.cyc + 7 } ∧
    FlagsOnly s t .i true ∧
    ∀ b, t.read b = if b = 0x0100 + zext s.sp then hiByte (s.pc + 2)
      else if b = 0x0100 + zext (s.sp - 1) then loByte (s.pc + 2)
      else if b = 0x0100 + zext (s.sp - 2) then s.p ||| 0x30 else s.read b

/-- R275: RTI pulls P, with B 0 and bit 5 set, then PC, with no 1 added. -/
def Obligations.RtiPullsStatusThenPc : Prop :=
  ∀ s : State, encode .rti = [0x40] ∧ ∃ t, exec .rti s = .next t ∧
    t = { s with sp := s.sp + 3, p := t.p, cyc := s.cyc + 6,
                 pc := addrOf (s.read (0x0100 + zext (s.sp + 3))) (s.read (0x0100 + zext (s.sp + 2))) } ∧
    FlagsPulled t (s.read (0x0100 + zext (s.sp + 1)))

/-- R275's corner case and R307: RTI after BRK, wherever the handler ends and whatever it did to P and to A, X and Y,
restores P and SP and returns to BRK's address + 2. -/
def Obligations.RtiReturnsFromBrk : Prop :=
  ∀ (q : Addr) (p a x y : Byte) (s : State), s.Inv → ∃ t u, exec .brk s = .next t ∧
    exec .rti { t with pc := q, p := p, a := a, x := x, y := y } = .next u ∧
    u = { s with a := a, x := x, y := y, mem := t.mem, pc := s.pc + 2, cyc := s.cyc + 13 }

/-! ### Flag instructions and NOP -/

/-- R290 to R296: each flag instruction writes the one flag it names. -/
def Obligations.FlagInstructionsWriteOneFlag : Prop :=
  ∀ s : State, ∀ f ∈ ([(.clc, 0x18, .c, false), (.sec, 0x38, .c, true), (.cli, 0x58, .i, false), (.sei, 0x78, .i, true),
      (.clv, 0xB8, .v, false), (.cld, 0xD8, .d, false), (.sed, 0xF8, .d, true)] : List (Instr × Byte × Flag × Bool)),
    encode f.1 = [f.2.1] ∧ ∃ t, exec f.1 s = .next t ∧
      t = { s with p := t.p, pc := s.pc + 1, cyc := s.cyc + 2 } ∧ FlagsOnly s t f.2.2.1 f.2.2.2

/-- R297: NOP only advances PC by 1 and CYC by 2. -/
def Obligations.NopOnlyAdvances : Prop :=
  ∀ s : State, encode .nop = [0xEA] ∧ exec .nop s = .next { s with pc := s.pc + 1, cyc := s.cyc + 2 }
end

