-- ==== Sys2Proof/Laws/Flags.lean ====
section
/-!
SUPPORT. The laws of the status bits: what a write of one flag, SetNZ and the whole-byte writes leave in every bit
(10_state.md R37 to R40).
-/

namespace Sys2Proof.Machine

@[simp] theorem flagOf_putFlag (p : Byte) (f g : Flag) (on : Bool) :
    flagOf (putFlag p f on) g = if g = f then on else flagOf p g := by
  cases f <;> cases g <;> cases on <;>
    simp [flagOf, putFlag, flagMask, flagBit]

theorem flagOf_setNZ (p v : Byte) (g : Flag) :
    flagOf (setNZ p v) g = if g = .n then v.getLsbD 7 else if g = .z then v == 0 else flagOf p g := by
  simp [setNZ]

theorem flagOf_storedStatus (v : Byte) (g : Flag) :
    flagOf (storedStatus v) g = if g = .one then true else if g = .b then false else flagOf v g := by
  cases g <;> simp [flagOf, storedStatus, flagBit]

theorem flagOf_pushedStatus (p : Byte) (g : Flag) :
    flagOf (pushedStatus p) g = if g = .one ∨ g = .b then true else flagOf p g := by
  cases g <;> simp [flagOf, pushedStatus, flagBit]

/-- ADC writes N, V, Z and C only (44_arithmetic.md R210, R211). -/
theorem flagOf_adc_other (a m p : Byte) {f : Flag} (hn : f ≠ .n) (hv : f ≠ .v) (hz : f ≠ .z) (hc : f ≠ .c) :
    flagOf (adc a m p).2 f = flagOf p f := by
  unfold adc
  cases f <;> first | contradiction | (split <;> simp [adcBinary, adcDecimal, flagOf_setNZ])

/-- SBC writes N, V, Z and C only (44_arithmetic.md R212). -/
theorem flagOf_sbc_other (a m p : Byte) {f : Flag} (hn : f ≠ .n) (hv : f ≠ .v) (hz : f ≠ .z) (hc : f ≠ .c) :
    flagOf (sbc a m p).2 f = flagOf p f := by
  cases f <;> first | contradiction | simp [sbc, sbcFlags, flagOf_setNZ]

/-- A status byte is its eight flags. -/
theorem status_ext {p q : Byte} (h : ∀ f, flagOf p f = flagOf q f) : p = q := by
  apply BitVec.eq_of_getLsbD_eq
  intro k hk
  have h7 := h .n; have h6 := h .v; have h5 := h .one; have h4 := h .b
  have h3 := h .d; have h2 := h .i; have h1 := h .z; have h0 := h .c
  simp only [flagOf, flagBit] at h0 h1 h2 h3 h4 h5 h6 h7
  match k, hk with
  | 0, _ => exact h0
  | 1, _ => exact h1
  | 2, _ => exact h2
  | 3, _ => exact h3
  | 4, _ => exact h4
  | 5, _ => exact h5
  | 6, _ => exact h6
  | 7, _ => exact h7

end Sys2Proof.Machine
end

