-- ==== Sys2Proof/Laws/Memory.lean ====
section
/-!
SUPPORT. The laws of memory: a write is read back and leaves every other cell alone (20_memory.md R62), and every
memory operation keeps the canonical form.
-/

namespace Sys2Proof.Machine

@[simp] theorem Memory.read_nil (a : Nat) : Memory.read [] a = unlisted := rfl

theorem Memory.read_cons_entry (k : Nat) (v : Byte) (rest : Memory) (a : Nat) :
    Memory.read ((k, v) :: rest) a = if k = a then v else Memory.read rest a := rfl

/-- A canonical memory that starts at `lo` lists nothing below it. -/
theorem Memory.read_below {m : Memory} : ∀ {lo a : Nat}, Memory.wfFrom lo m = true → a < lo →
    Memory.read m a = unlisted := by
  induction m with
  | nil => intros; rfl
  | cons e rest ih =>
    obtain ⟨k, v⟩ := e
    intro lo a h ha
    simp only [Memory.wfFrom, Bool.and_eq_true, decide_eq_true_eq] at h
    have hk : k ≠ a := by omega
    rw [Memory.read_cons_entry, if_neg hk]
    exact ih h.2 (by omega)

/-- The canonical form is kept when the lower bound is lowered. -/
theorem Memory.wfFrom_lower {m : Memory} {lo lo' : Nat} (h : Memory.wfFrom lo m = true) (hl : lo' ≤ lo) :
    Memory.wfFrom lo' m = true := by
  cases m with
  | nil => rfl
  | cons e rest =>
    obtain ⟨k, v⟩ := e
    simp only [Memory.wfFrom, Bool.and_eq_true, decide_eq_true_eq] at h ⊢
    exact ⟨⟨⟨by omega, h.1.1.2⟩, h.1.2⟩, h.2⟩

/-- `Memory.cons` reads as its byte at its address. -/
theorem Memory.read_cons_same {a : Nat} {v : Byte} {rest : Memory} (h : Memory.read rest a = unlisted) :
    Memory.read (Memory.cons a v rest) a = v := by
  unfold Memory.cons
  split
  · next hv => rw [h, hv]
  · rw [Memory.read_cons_entry, if_pos rfl]

/-- `Memory.cons` leaves every other address alone. -/
theorem Memory.read_cons_ne {a b : Nat} {v : Byte} {rest : Memory} (h : a ≠ b) :
    Memory.read (Memory.cons a v rest) b = Memory.read rest b := by
  unfold Memory.cons
  split
  · rfl
  · rw [Memory.read_cons_entry, if_neg h]

/-- `Memory.cons` keeps the canonical form. -/
theorem Memory.wfFrom_cons {a : Nat} {v : Byte} {rest : Memory} (h : Memory.wfFrom (a + 1) rest = true)
    (ha : a < memSize) : Memory.wfFrom a (Memory.cons a v rest) = true := by
  unfold Memory.cons
  split
  · exact Memory.wfFrom_lower h (by omega)
  · next hv => simp [Memory.wfFrom, h, ha, hv]

/-- A write leaves every other cell alone (20_memory.md R62). -/
theorem Memory.read_write_ne {a b : Nat} (v : Byte) (h : a ≠ b) :
    ∀ m : Memory, Memory.read (Memory.write m a v) b = Memory.read m b := by
  intro m
  induction m with
  | nil => exact Memory.read_cons_ne h
  | cons e rest ih =>
    obtain ⟨k, w⟩ := e
    unfold Memory.write
    split
    · next hk => rw [Memory.read_cons_ne h, Memory.read_cons_entry, if_neg (by omega)]
    · split
      · exact Memory.read_cons_ne h
      · rw [Memory.read_cons_entry, Memory.read_cons_entry, ih]

theorem Memory.read_write_same_from {a : Nat} {v : Byte} {m : Memory} :
    ∀ {lo : Nat}, Memory.wfFrom lo m = true → Memory.read (Memory.write m a v) a = v := by
  induction m with
  | nil => intros; exact Memory.read_cons_same rfl
  | cons e rest ih =>
    obtain ⟨k, w⟩ := e
    intro lo h
    have h' := h
    simp only [Memory.wfFrom, Bool.and_eq_true, decide_eq_true_eq] at h'
    unfold Memory.write
    split
    · next hk => exact Memory.read_cons_same (Memory.read_below h'.2 (by omega))
    · split
      · next hk =>
        have hw : Memory.wfFrom k ((k, w) :: rest) = true := by
          simp only [Memory.wfFrom, Bool.and_eq_true, decide_eq_true_eq]
          exact ⟨⟨⟨by omega, h'.1.1.2⟩, h'.1.2⟩, h'.2⟩
        exact Memory.read_cons_same (Memory.read_below hw hk)
      · next hk _ => rw [Memory.read_cons_entry, if_neg hk]; exact ih h'.2

/-- A written byte is read back (20_memory.md R62, the "round-trip identity"). -/
theorem Memory.read_write_same {m : Memory} (h : m.wf = true) (a : Nat) (v : Byte) :
    Memory.read (Memory.write m a v) a = v :=
  Memory.read_write_same_from h

theorem Memory.wfFrom_write {a : Nat} {v : Byte} (ha : a < memSize) {m : Memory} :
    ∀ {lo : Nat}, Memory.wfFrom lo m = true → lo ≤ a → Memory.wfFrom lo (Memory.write m a v) = true := by
  induction m with
  | nil => intro lo _ hl; exact Memory.wfFrom_lower (Memory.wfFrom_cons rfl ha) hl
  | cons e rest ih =>
    obtain ⟨k, w⟩ := e
    intro lo h hl
    have h' := h
    simp only [Memory.wfFrom, Bool.and_eq_true, decide_eq_true_eq] at h'
    unfold Memory.write
    split
    · next hk => subst hk; exact Memory.wfFrom_lower (Memory.wfFrom_cons h'.2 ha) hl
    · split
      · next hk =>
        refine Memory.wfFrom_lower (Memory.wfFrom_cons ?_ ha) hl
        simp only [Memory.wfFrom, Bool.and_eq_true, decide_eq_true_eq]
        exact ⟨⟨⟨by omega, h'.1.1.2⟩, h'.1.2⟩, h'.2⟩
      · next hne hge =>
        simp only [Memory.wfFrom, Bool.and_eq_true, decide_eq_true_eq]
        exact ⟨h'.1, ih h'.2 (by omega)⟩

/-- A write keeps the canonical form. -/
theorem Memory.wf_write {m : Memory} (h : m.wf = true) {a : Nat} (ha : a < memSize) (v : Byte) :
    (Memory.write m a v).wf = true :=
  Memory.wfFrom_write ha h (Nat.zero_le a)

theorem Memory.wfFrom_ofBytesFrom (image : List Byte) :
    ∀ n : Nat, n + image.length ≤ memSize → Memory.wfFrom n (Memory.ofBytesFrom n image) = true := by
  induction image with
  | nil => intros; rfl
  | cons v rest ih =>
    intro n hn
    simp only [List.length_cons] at hn
    exact Memory.wfFrom_cons (ih (n + 1) (by omega)) (by omega)

/-- A loaded image is in canonical form. -/
theorem Memory.wf_ofBytes {image : List Byte} (h : image.length ≤ memSize) : (Memory.ofBytes image).wf = true :=
  Memory.wfFrom_ofBytesFrom image 0 (by omega)

/-- The memory as created is in canonical form. -/
theorem Memory.wf_zeroFilled : Memory.zeroFilled.wf = true := rfl

end Sys2Proof.Machine
end

