-- ==== Sys2Proof/Laws/State.lean ====
section
/-!
SUPPORT. One lemma per field per update of State, so that no proof unfolds a record update.
-/

namespace Sys2Proof.Machine

@[simp] theorem State.write_a (s : State) (w : Addr) (v : Byte) : (s.write w v).a = s.a := rfl
@[simp] theorem State.write_x (s : State) (w : Addr) (v : Byte) : (s.write w v).x = s.x := rfl
@[simp] theorem State.write_y (s : State) (w : Addr) (v : Byte) : (s.write w v).y = s.y := rfl
@[simp] theorem State.write_sp (s : State) (w : Addr) (v : Byte) : (s.write w v).sp = s.sp := rfl
@[simp] theorem State.write_pc (s : State) (w : Addr) (v : Byte) : (s.write w v).pc = s.pc := rfl
@[simp] theorem State.write_p (s : State) (w : Addr) (v : Byte) : (s.write w v).p = s.p := rfl
@[simp] theorem State.write_cyc (s : State) (w : Addr) (v : Byte) : (s.write w v).cyc = s.cyc := rfl
@[simp] theorem State.write_mem (s : State) (w : Addr) (v : Byte) : (s.write w v).mem = Memory.write s.mem w.toNat v := rfl
@[simp] theorem State.write_mode (s : State) (w : Addr) (v : Byte) : (s.write w v).mode = s.mode := rfl

@[simp] theorem State.push_a (s : State) (v : Byte) : (s.push v).a = s.a := rfl
@[simp] theorem State.push_x (s : State) (v : Byte) : (s.push v).x = s.x := rfl
@[simp] theorem State.push_y (s : State) (v : Byte) : (s.push v).y = s.y := rfl
@[simp] theorem State.push_sp (s : State) (v : Byte) : (s.push v).sp = s.sp - 1 := rfl
@[simp] theorem State.push_pc (s : State) (v : Byte) : (s.push v).pc = s.pc := rfl
@[simp] theorem State.push_p (s : State) (v : Byte) : (s.push v).p = s.p := rfl
@[simp] theorem State.push_cyc (s : State) (v : Byte) : (s.push v).cyc = s.cyc := rfl
@[simp] theorem State.push_mem (s : State) (v : Byte) : (s.push v).mem = Memory.write s.mem (stackAddr s.sp).toNat v := rfl
@[simp] theorem State.push_mode (s : State) (v : Byte) : (s.push v).mode = s.mode := rfl

@[simp] theorem State.setNZ_a (s : State) (v : Byte) : (s.setNZ v).a = s.a := rfl
@[simp] theorem State.setNZ_x (s : State) (v : Byte) : (s.setNZ v).x = s.x := rfl
@[simp] theorem State.setNZ_y (s : State) (v : Byte) : (s.setNZ v).y = s.y := rfl
@[simp] theorem State.setNZ_sp (s : State) (v : Byte) : (s.setNZ v).sp = s.sp := rfl
@[simp] theorem State.setNZ_pc (s : State) (v : Byte) : (s.setNZ v).pc = s.pc := rfl
@[simp] theorem State.setNZ_p (s : State) (v : Byte) : (s.setNZ v).p = Machine.setNZ s.p v := rfl
@[simp] theorem State.setNZ_cyc (s : State) (v : Byte) : (s.setNZ v).cyc = s.cyc := rfl
@[simp] theorem State.setNZ_mem (s : State) (v : Byte) : (s.setNZ v).mem = s.mem := rfl
@[simp] theorem State.setNZ_mode (s : State) (v : Byte) : (s.setNZ v).mode = s.mode := rfl

@[simp] theorem State.setStatus_a (s : State) (v : Byte) : (s.setStatus v).a = s.a := rfl
@[simp] theorem State.setStatus_x (s : State) (v : Byte) : (s.setStatus v).x = s.x := rfl
@[simp] theorem State.setStatus_y (s : State) (v : Byte) : (s.setStatus v).y = s.y := rfl
@[simp] theorem State.setStatus_sp (s : State) (v : Byte) : (s.setStatus v).sp = s.sp := rfl
@[simp] theorem State.setStatus_pc (s : State) (v : Byte) : (s.setStatus v).pc = s.pc := rfl
@[simp] theorem State.setStatus_p (s : State) (v : Byte) : (s.setStatus v).p = storedStatus v := rfl
@[simp] theorem State.setStatus_cyc (s : State) (v : Byte) : (s.setStatus v).cyc = s.cyc := rfl
@[simp] theorem State.setStatus_mem (s : State) (v : Byte) : (s.setStatus v).mem = s.mem := rfl
@[simp] theorem State.setStatus_mode (s : State) (v : Byte) : (s.setStatus v).mode = s.mode := rfl

@[simp] theorem State.putFlag_a (s : State) (f : Flag) (on : Bool) : (s.putFlag f on).a = s.a := rfl
@[simp] theorem State.putFlag_x (s : State) (f : Flag) (on : Bool) : (s.putFlag f on).x = s.x := rfl
@[simp] theorem State.putFlag_y (s : State) (f : Flag) (on : Bool) : (s.putFlag f on).y = s.y := rfl
@[simp] theorem State.putFlag_sp (s : State) (f : Flag) (on : Bool) : (s.putFlag f on).sp = s.sp := rfl
@[simp] theorem State.putFlag_pc (s : State) (f : Flag) (on : Bool) : (s.putFlag f on).pc = s.pc := rfl
@[simp] theorem State.putFlag_p (s : State) (f : Flag) (on : Bool) : (s.putFlag f on).p = Machine.putFlag s.p f on := rfl
@[simp] theorem State.putFlag_cyc (s : State) (f : Flag) (on : Bool) : (s.putFlag f on).cyc = s.cyc := rfl
@[simp] theorem State.putFlag_mem (s : State) (f : Flag) (on : Bool) : (s.putFlag f on).mem = s.mem := rfl
@[simp] theorem State.putFlag_mode (s : State) (f : Flag) (on : Bool) : (s.putFlag f on).mode = s.mode := rfl

@[simp] theorem State.retire_a (s : State) (n c : Nat) : (s.retire n c).a = s.a := rfl
@[simp] theorem State.retire_x (s : State) (n c : Nat) : (s.retire n c).x = s.x := rfl
@[simp] theorem State.retire_y (s : State) (n c : Nat) : (s.retire n c).y = s.y := rfl
@[simp] theorem State.retire_sp (s : State) (n c : Nat) : (s.retire n c).sp = s.sp := rfl
@[simp] theorem State.retire_pc (s : State) (n c : Nat) : (s.retire n c).pc = s.pc + BitVec.ofNat 16 n := rfl
@[simp] theorem State.retire_p (s : State) (n c : Nat) : (s.retire n c).p = s.p := rfl
@[simp] theorem State.retire_cyc (s : State) (n c : Nat) : (s.retire n c).cyc = s.cyc + c := rfl
@[simp] theorem State.retire_mem (s : State) (n c : Nat) : (s.retire n c).mem = s.mem := rfl
@[simp] theorem State.retire_mode (s : State) (n c : Nat) : (s.retire n c).mode = s.mode := rfl

@[simp] theorem State.jump_a (s : State) (w : Addr) (c : Nat) : (s.jump w c).a = s.a := rfl
@[simp] theorem State.jump_x (s : State) (w : Addr) (c : Nat) : (s.jump w c).x = s.x := rfl
@[simp] theorem State.jump_y (s : State) (w : Addr) (c : Nat) : (s.jump w c).y = s.y := rfl
@[simp] theorem State.jump_sp (s : State) (w : Addr) (c : Nat) : (s.jump w c).sp = s.sp := rfl
@[simp] theorem State.jump_pc (s : State) (w : Addr) (c : Nat) : (s.jump w c).pc = w := rfl
@[simp] theorem State.jump_p (s : State) (w : Addr) (c : Nat) : (s.jump w c).p = s.p := rfl
@[simp] theorem State.jump_cyc (s : State) (w : Addr) (c : Nat) : (s.jump w c).cyc = s.cyc + c := rfl
@[simp] theorem State.jump_mem (s : State) (w : Addr) (c : Nat) : (s.jump w c).mem = s.mem := rfl
@[simp] theorem State.jump_mode (s : State) (w : Addr) (c : Nat) : (s.jump w c).mode = s.mode := rfl

@[simp] theorem State.halt_a (s : State) (f : Fault) : (s.halt f).a = s.a := rfl
@[simp] theorem State.halt_x (s : State) (f : Fault) : (s.halt f).x = s.x := rfl
@[simp] theorem State.halt_y (s : State) (f : Fault) : (s.halt f).y = s.y := rfl
@[simp] theorem State.halt_sp (s : State) (f : Fault) : (s.halt f).sp = s.sp := rfl
@[simp] theorem State.halt_pc (s : State) (f : Fault) : (s.halt f).pc = s.pc := rfl
@[simp] theorem State.halt_p (s : State) (f : Fault) : (s.halt f).p = s.p := rfl
@[simp] theorem State.halt_cyc (s : State) (f : Fault) : (s.halt f).cyc = s.cyc := rfl
@[simp] theorem State.halt_mem (s : State) (f : Fault) : (s.halt f).mem = s.mem := rfl
@[simp] theorem State.halt_mode (s : State) (f : Fault) : (s.halt f).mode = .halted f := rfl

@[simp] theorem State.resetOp_a (s : State) (cfg : Config) : (s.resetOp cfg).a = 0x00 := rfl
@[simp] theorem State.resetOp_x (s : State) (cfg : Config) : (s.resetOp cfg).x = 0x00 := rfl
@[simp] theorem State.resetOp_y (s : State) (cfg : Config) : (s.resetOp cfg).y = 0x00 := rfl
@[simp] theorem State.resetOp_sp (s : State) (cfg : Config) : (s.resetOp cfg).sp = 0xFF := rfl
@[simp] theorem State.resetOp_pc (s : State) (cfg : Config) : (s.resetOp cfg).pc = s.resetPc cfg.resetPcSource := rfl
@[simp] theorem State.resetOp_p (s : State) (cfg : Config) : (s.resetOp cfg).p = storedStatus cfg.resetP := rfl
@[simp] theorem State.resetOp_cyc (s : State) (cfg : Config) : (s.resetOp cfg).cyc = 7 := rfl
@[simp] theorem State.resetOp_mem (s : State) (cfg : Config) : (s.resetOp cfg).mem = s.mem := rfl
@[simp] theorem State.resetOp_mode (s : State) (cfg : Config) : (s.resetOp cfg).mode = .running := rfl

@[simp] theorem State.get_a (s : State) : s.get .a = s.a := rfl
@[simp] theorem State.set_a (s : State) (v : Byte) : s.set .a v = { s with a := v } := rfl
@[simp] theorem State.get_x (s : State) : s.get .x = s.x := rfl
@[simp] theorem State.set_x (s : State) (v : Byte) : s.set .x v = { s with x := v } := rfl
@[simp] theorem State.get_y (s : State) : s.get .y = s.y := rfl
@[simp] theorem State.set_y (s : State) (v : Byte) : s.set .y v = { s with y := v } := rfl
@[simp] theorem State.get_sp (s : State) : s.get .sp = s.sp := rfl
@[simp] theorem State.set_sp (s : State) (v : Byte) : s.set .sp v = { s with sp := v } := rfl

@[simp] theorem State.set_pc (s : State) (r : Reg) (v : Byte) : (s.set r v).pc = s.pc := by cases r <;> rfl
@[simp] theorem State.set_p (s : State) (r : Reg) (v : Byte) : (s.set r v).p = s.p := by cases r <;> rfl
@[simp] theorem State.set_cyc (s : State) (r : Reg) (v : Byte) : (s.set r v).cyc = s.cyc := by cases r <;> rfl
@[simp] theorem State.set_mem (s : State) (r : Reg) (v : Byte) : (s.set r v).mem = s.mem := by cases r <;> rfl
@[simp] theorem State.set_mode (s : State) (r : Reg) (v : Byte) : (s.set r v).mode = s.mode := by cases r <;> rfl

/-- Writing a register and reading a register: only the one written changes. -/
theorem State.get_set (s : State) (r q : Reg) (v : Byte) : (s.set r v).get q = if q = r then v else s.get q := by
  cases r <;> cases q <;> rfl

/-- What a pull gives. -/
@[simp] theorem State.pull_fst (s : State) : s.pull.1 = s.read (stackAddr (s.sp + 1)) := rfl

/-- What a pull leaves. -/
@[simp] theorem State.pull_snd (s : State) : s.pull.2 = { s with sp := s.sp + 1 } := rfl

end Sys2Proof.Machine
end

