-- ==== Sys2Proof/Laws/Ops.lean ====
section
/-!
SUPPORT. One law per shared operation: byte order, memory access through the state, the stack, and the trap entry and
return.
-/

namespace Sys2Proof

/-! ### Byte order (00_scope.md R9) -/

@[simp] theorem addrOf_toNat (hi lo : Byte) : (addrOf hi lo).toNat = lo.toNat + 256 * hi.toNat := by
  have := hi.isLt; have := lo.isLt
  simp only [addrOf, BitVec.toNat_ofNat]; omega

@[simp] theorem loByte_toNat (w : Addr) : (loByte w).toNat = w.toNat % 256 := by simp [loByte]

@[simp] theorem hiByte_toNat (w : Addr) : (hiByte w).toNat = w.toNat / 256 := by
  have := w.isLt
  simp only [hiByte, BitVec.toNat_ofNat]; omega

@[simp] theorem zext_toNat (b : Byte) : (zext b).toNat = b.toNat := by
  have := b.isLt
  simp only [zext, BitVec.toNat_setWidth]; omega

/-- A 16-bit value is put together again from its two bytes. -/
theorem addrOf_bytes (w : Addr) : addrOf (hiByte w) (loByte w) = w := by
  apply BitVec.eq_of_toNat_eq
  simp only [addrOf_toNat, loByte_toNat, hiByte_toNat]; omega

namespace Machine

/-! ### Memory through the state (20_memory.md R62) -/

theorem Addr_lt_memSize (a : Addr) : a.toNat < memSize := a.isLt

theorem State.read_write_same {s : State} (h : s.mem.wf = true) (a : Addr) (v : Byte) : (s.write a v).read a = v :=
  Memory.read_write_same h a.toNat v

theorem State.read_write_ne (s : State) {a b : Addr} (v : Byte) (h : a ≠ b) : (s.write a v).read b = s.read b :=
  Memory.read_write_ne v (fun e => h (BitVec.eq_of_toNat_eq e)) s.mem

theorem State.write_wf {s : State} (h : s.mem.wf = true) (a : Addr) (v : Byte) : (s.write a v).mem.wf = true :=
  Memory.wf_write h (Addr_lt_memSize a) v

/-- A read sees memory only. -/
theorem State.read_congr {s t : State} (h : t.mem = s.mem) (a : Addr) : t.read a = s.read a := by
  simp only [State.read, h]

/-! ### The stack (20_memory.md R65 to R67) -/

/-- Two stack addresses are equal only for equal offsets. -/
theorem stackAddr_inj {p q : Byte} (h : stackAddr p = stackAddr q) : p = q := by
  have h' := congrArg BitVec.toNat h
  simp only [stackAddr, addrOf_toNat] at h'
  exact BitVec.eq_of_toNat_eq (by omega)

/-- Everything a push does. -/
theorem State.push_spec {s : State} (h : s.mem.wf = true) (v : Byte) :
    (s.push v).read (stackAddr s.sp) = v ∧ (∀ a, a ≠ stackAddr s.sp → (s.push v).read a = s.read a) ∧
      (s.push v).mem.wf = true ∧ s.push v = { s with sp := s.sp - 1, mem := (s.push v).mem } :=
  ⟨State.read_write_same h _ v, fun _ ha => State.read_write_ne s v ha.symm, State.write_wf h _ v, rfl⟩

theorem State.push_wf {s : State} (h : s.mem.wf = true) (v : Byte) : (s.push v).mem.wf = true :=
  State.write_wf h _ v

/-- A pull after a push gives the byte pushed and the stack pointer back. -/
theorem State.pull_push {s : State} (h : s.mem.wf = true) (v : Byte) :
    (s.push v).pull.1 = v ∧ (s.push v).pull.2.sp = s.sp := by
  have hsp : s.sp - 1 + 1 = s.sp := BitVec.sub_add_cancel s.sp 1
  simp only [State.pull, State.push_sp, hsp, and_true]
  exact State.read_write_same h _ v

theorem State.push16_wf {s : State} (h : s.mem.wf = true) (w : Addr) : (s.push16 w).mem.wf = true :=
  State.push_wf (State.push_wf h _) _

/-- What a 16-bit push leaves besides memory and the stack pointer. -/
theorem State.push16_frame (s : State) (w : Addr) :
    s.push16 w = { s with sp := s.sp - 1 - 1, mem := (s.push16 w).mem } := rfl

/-- What a 16-bit pull gives and leaves. -/
theorem State.pull16_spec (s : State) :
    s.pull16 = (addrOf (s.read (stackAddr (s.sp + 1 + 1))) (s.read (stackAddr (s.sp + 1))),
      { s with sp := s.sp + 1 + 1 }) := rfl

/-! ### Trap entry and return (60_exceptions.md R302, R307) -/

/-- What trap entry leaves besides memory and PC. -/
theorem State.enterTrap_frame (s : State) (ret : Addr) (c : Nat) :
    s.enterTrap ret c = { s with
      sp := s.sp - 1 - 1 - 1, p := Machine.putFlag s.p .i true, mem := (s.enterTrap ret c).mem,
      pc := (s.enterTrap ret c).read16 brkVector, cyc := s.cyc + c } := rfl

/-- What trap return does. -/
theorem State.leaveTrap_spec (s : State) (c : Nat) :
    s.leaveTrap c = { s with
      sp := s.sp + 1 + 1 + 1, p := storedStatus (s.read (stackAddr (s.sp + 1))),
      pc := addrOf (s.read (stackAddr (s.sp + 1 + 1 + 1))) (s.read (stackAddr (s.sp + 1 + 1))),
      cyc := s.cyc + c } := rfl

end Machine

end Sys2Proof
end

