-- ==== Sys2Proof/Laws/Families.lean ====
section
/-!
SUPPORT. One law per instruction shape: everything that a load, a store, a transfer, an operation on A, a compare, a bit
test, a read-modify-write, a branch and a call do.
-/

namespace Sys2Proof.Machine

/-- What every cell holds after a write. -/
theorem State.read_write {s : State} (h : s.mem.wf = true) (a : Addr) (v : Byte) (b : Addr) :
    (s.write a v).read b = if b = a then v else s.read b := by
  split
  · next e => rw [e]; exact State.read_write_same h a v
  · next e => exact State.read_write_ne s v (Ne.symm e)

/-- What every cell holds after a push. -/
theorem State.read_push {s : State} (h : s.mem.wf = true) (v : Byte) (b : Addr) :
    (s.push v).read b = if b = stackAddr s.sp then v else s.read b :=
  State.read_write h (stackAddr s.sp) v b

theorem State.setResult_spec (s : State) (r : Reg) (v : Byte) :
    s.setResult r v = { s.set r v with p := Machine.setNZ s.p v } := by
  cases r <;> rfl

theorem State.loadReg_spec (s : State) (r : Reg) (o : ReadOperand) (n : Nat) :
    s.loadReg r o n = { s.set r (o.value s) with
      p := Machine.setNZ s.p (o.value s), pc := s.pc + BitVec.ofNat 16 o.length, cyc := s.cyc + n + o.penalty s } := by
  cases r <;> simp [State.loadReg, State.setResult_spec, State.retire, Nat.add_assoc]

theorem State.storeReg_spec (s : State) (r : Reg) (o : MemOperand) (n : Nat) :
    s.storeReg r o n = { s with
      mem := (s.write (o.ea s) (s.get r)).mem, pc := s.pc + BitVec.ofNat 16 o.length, cyc := s.cyc + n } := rfl

theorem State.transfer_spec (s : State) (src dst : Reg) (n : Nat) :
    s.transfer src dst n = { s.set dst (s.get src) with
      p := Machine.setNZ s.p (s.get src), pc := s.pc + 1, cyc := s.cyc + n } := by
  cases dst <;> rfl

theorem State.accumulate_spec (s : State) (f : Byte → Byte → Byte → Byte × Byte) (o : ReadOperand) (n : Nat) :
    s.accumulate f o n = { s with
      a := (f s.a (o.value s) s.p).1, p := (f s.a (o.value s) s.p).2,
      pc := s.pc + BitVec.ofNat 16 o.length, cyc := s.cyc + n + o.penalty s } := by
  simp [State.accumulate, State.retire, Nat.add_assoc]

theorem State.compare_spec (s : State) (r : Reg) (o : ReadOperand) (n : Nat) :
    s.compare r o n = { s with
      p := compareFlags (s.get r) (o.value s) s.p,
      pc := s.pc + BitVec.ofNat 16 o.length, cyc := s.cyc + n + o.penalty s } := by
  simp [State.compare, State.retire, Nat.add_assoc]

theorem State.bitTest_spec (s : State) (o : ReadOperand) (n : Nat) :
    s.bitTest o n = { s with
      p := bitFlags s.a (o.value s) s.p, pc := s.pc + BitVec.ofNat 16 o.length, cyc := s.cyc + n } := rfl

/-- A read-modify-write in accumulator mode. -/
theorem State.modify_acc (s : State) (f : Byte → Byte → Byte × Byte) (n : Nat) :
    s.modify f .acc n = { s with a := (f s.a s.p).1, p := (f s.a s.p).2, pc := s.pc + 1, cyc := s.cyc + n } := rfl

/-- A read-modify-write on memory. -/
theorem State.modify_mem (s : State) (f : Byte → Byte → Byte × Byte) (o : MemOperand) (n : Nat) :
    s.modify f (.mem o) n = { s with
      mem := (s.write (o.ea s) (f (s.read (o.ea s)) s.p).1).mem, p := (f (s.read (o.ea s)) s.p).2,
      pc := s.pc + BitVec.ofNat 16 o.length, cyc := s.cyc + n } := rfl

theorem State.branch_taken (s : State) (off : Byte) (n : Nat) :
    s.branch true off n = { s with
      pc := s.pc + 2 + sext off,
      cyc := s.cyc + (n + 1 + (pageCrossed (s.pc + 2) (s.pc + 2 + sext off)).toNat) } := rfl

theorem State.branch_not_taken (s : State) (off : Byte) (n : Nat) :
    s.branch false off n = { s with pc := s.pc + 2, cyc := s.cyc + n } := rfl

/-- A branch changes PC and CYC only. -/
theorem State.branch_frame (s : State) (cond : Bool) (off : Byte) (n : Nat) :
    s.branch cond off n = { s with pc := (s.branch cond off n).pc, cyc := (s.branch cond off n).cyc } := by
  cases cond <;> rfl

theorem State.call_spec (s : State) (lo : Byte) (n : Nat) :
    s.call lo n = { s with
      sp := s.sp - 1 - 1, mem := (s.push16 (s.pc + 2)).mem,
      pc := addrOf ((s.push16 (s.pc + 2)).read (s.pc + 2)) lo, cyc := s.cyc + n } := rfl

end Sys2Proof.Machine
end

