-- ==== Sys2Proof/Laws/PerInstr.lean ====
section
/-!
SUPPORT. What holds of every instruction as syntax, one lemma per constructor: its form is one the opcode table has
(40_addressing_modes.md R137), its bytes are as many as its mode has (30_encoding.md R91), and its opcode byte decodes to an
instruction of its form, whatever bytes follow (30_encoding.md R93, R94).
-/

namespace Sys2Proof.Laws.EncodedForm

/-- The form, the length and the opcode of an instruction agree. -/
def Statement (i : Instr) : Prop :=
  i.wellFormed = true ∧ (encode i).length = i.length ∧
    ∀ b1 b2 : Byte, (decodeOpcode i.opcode b1 b2).map Instr.form = some i.form

theorem ldaImm (v : Byte) : Statement (.ldaImm v) := ⟨rfl, rfl, fun b1 b2 =>
  show (decodeOpcode 0xA9 b1 b2).map Instr.form = _ from rfl⟩
theorem ldaZp (a : Byte) : Statement (.ldaZp a) := ⟨rfl, rfl, fun b1 b2 =>
  show (decodeOpcode 0xA5 b1 b2).map Instr.form = _ from rfl⟩
theorem ldaZpX (a : Byte) : Statement (.ldaZpX a) := ⟨rfl, rfl, fun b1 b2 =>
  show (decodeOpcode 0xB5 b1 b2).map Instr.form = _ from rfl⟩
theorem ldaAbs (w : Addr) : Statement (.ldaAbs w) := ⟨rfl, rfl, fun b1 b2 =>
  show (decodeOpcode 0xAD b1 b2).map Instr.form = _ from rfl⟩
theorem ldaAbsX (w : Addr) : Statement (.ldaAbsX w) := ⟨rfl, rfl, fun b1 b2 =>
  show (decodeOpcode 0xBD b1 b2).map Instr.form = _ from rfl⟩
theorem ldaAbsY (w : Addr) : Statement (.ldaAbsY w) := ⟨rfl, rfl, fun b1 b2 =>
  show (decodeOpcode 0xB9 b1 b2).map Instr.form = _ from rfl⟩
theorem ldaIndX (a : Byte) : Statement (.ldaIndX a) := ⟨rfl, rfl, fun b1 b2 =>
  show (decodeOpcode 0xA1 b1 b2).map Instr.form = _ from rfl⟩
theorem ldaIndY (a : Byte) : Statement (.ldaIndY a) := ⟨rfl, rfl, fun b1 b2 =>
  show (decodeOpcode 0xB1 b1 b2).map Instr.form = _ from rfl⟩
theorem ldxImm (v : Byte) : Statement (.ldxImm v) := ⟨rfl, rfl, fun b1 b2 =>
  show (decodeOpcode 0xA2 b1 b2).map Instr.form = _ from rfl⟩
theorem ldxZp (a : Byte) : Statement (.ldxZp a) := ⟨rfl, rfl, fun b1 b2 =>
  show (decodeOpcode 0xA6 b1 b2).map Instr.form = _ from rfl⟩
theorem ldxZpY (a : Byte) : Statement (.ldxZpY a) := ⟨rfl, rfl, fun b1 b2 =>
  show (decodeOpcode 0xB6 b1 b2).map Instr.form = _ from rfl⟩
theorem ldxAbs (w : Addr) : Statement (.ldxAbs w) := ⟨rfl, rfl, fun b1 b2 =>
  show (decodeOpcode 0xAE b1 b2).map Instr.form = _ from rfl⟩
theorem ldxAbsY (w : Addr) : Statement (.ldxAbsY w) := ⟨rfl, rfl, fun b1 b2 =>
  show (decodeOpcode 0xBE b1 b2).map Instr.form = _ from rfl⟩
theorem ldyImm (v : Byte) : Statement (.ldyImm v) := ⟨rfl, rfl, fun b1 b2 =>
  show (decodeOpcode 0xA0 b1 b2).map Instr.form = _ from rfl⟩
theorem ldyZp (a : Byte) : Statement (.ldyZp a) := ⟨rfl, rfl, fun b1 b2 =>
  show (decodeOpcode 0xA4 b1 b2).map Instr.form = _ from rfl⟩
theorem ldyZpX (a : Byte) : Statement (.ldyZpX a) := ⟨rfl, rfl, fun b1 b2 =>
  show (decodeOpcode 0xB4 b1 b2).map Instr.form = _ from rfl⟩
theorem ldyAbs (w : Addr) : Statement (.ldyAbs w) := ⟨rfl, rfl, fun b1 b2 =>
  show (decodeOpcode 0xAC b1 b2).map Instr.form = _ from rfl⟩
theorem ldyAbsX (w : Addr) : Statement (.ldyAbsX w) := ⟨rfl, rfl, fun b1 b2 =>
  show (decodeOpcode 0xBC b1 b2).map Instr.form = _ from rfl⟩
theorem staZp (a : Byte) : Statement (.staZp a) := ⟨rfl, rfl, fun b1 b2 =>
  show (decodeOpcode 0x85 b1 b2).map Instr.form = _ from rfl⟩
theorem staZpX (a : Byte) : Statement (.staZpX a) := ⟨rfl, rfl, fun b1 b2 =>
  show (decodeOpcode 0x95 b1 b2).map Instr.form = _ from rfl⟩
theorem staAbs (w : Addr) : Statement (.staAbs w) := ⟨rfl, rfl, fun b1 b2 =>
  show (decodeOpcode 0x8D b1 b2).map Instr.form = _ from rfl⟩
theorem staAbsX (w : Addr) : Statement (.staAbsX w) := ⟨rfl, rfl, fun b1 b2 =>
  show (decodeOpcode 0x9D b1 b2).map Instr.form = _ from rfl⟩
theorem staAbsY (w : Addr) : Statement (.staAbsY w) := ⟨rfl, rfl, fun b1 b2 =>
  show (decodeOpcode 0x99 b1 b2).map Instr.form = _ from rfl⟩
theorem staIndX (a : Byte) : Statement (.staIndX a) := ⟨rfl, rfl, fun b1 b2 =>
  show (decodeOpcode 0x81 b1 b2).map Instr.form = _ from rfl⟩
theorem staIndY (a : Byte) : Statement (.staIndY a) := ⟨rfl, rfl, fun b1 b2 =>
  show (decodeOpcode 0x91 b1 b2).map Instr.form = _ from rfl⟩
theorem stxZp (a : Byte) : Statement (.stxZp a) := ⟨rfl, rfl, fun b1 b2 =>
  show (decodeOpcode 0x86 b1 b2).map Instr.form = _ from rfl⟩
theorem stxZpY (a : Byte) : Statement (.stxZpY a) := ⟨rfl, rfl, fun b1 b2 =>
  show (decodeOpcode 0x96 b1 b2).map Instr.form = _ from rfl⟩
theorem stxAbs (w : Addr) : Statement (.stxAbs w) := ⟨rfl, rfl, fun b1 b2 =>
  show (decodeOpcode 0x8E b1 b2).map Instr.form = _ from rfl⟩
theorem styZp (a : Byte) : Statement (.styZp a) := ⟨rfl, rfl, fun b1 b2 =>
  show (decodeOpcode 0x84 b1 b2).map Instr.form = _ from rfl⟩
theorem styZpX (a : Byte) : Statement (.styZpX a) := ⟨rfl, rfl, fun b1 b2 =>
  show (decodeOpcode 0x94 b1 b2).map Instr.form = _ from rfl⟩
theorem styAbs (w : Addr) : Statement (.styAbs w) := ⟨rfl, rfl, fun b1 b2 =>
  show (decodeOpcode 0x8C b1 b2).map Instr.form = _ from rfl⟩
theorem tax : Statement (.tax) := ⟨rfl, rfl, fun b1 b2 =>
  show (decodeOpcode 0xAA b1 b2).map Instr.form = _ from rfl⟩
theorem tay : Statement (.tay) := ⟨rfl, rfl, fun b1 b2 =>
  show (decodeOpcode 0xA8 b1 b2).map Instr.form = _ from rfl⟩
theorem txa : Statement (.txa) := ⟨rfl, rfl, fun b1 b2 =>
  show (decodeOpcode 0x8A b1 b2).map Instr.form = _ from rfl⟩
theorem tya : Statement (.tya) := ⟨rfl, rfl, fun b1 b2 =>
  show (decodeOpcode 0x98 b1 b2).map Instr.form = _ from rfl⟩
theorem tsx : Statement (.tsx) := ⟨rfl, rfl, fun b1 b2 =>
  show (decodeOpcode 0xBA b1 b2).map Instr.form = _ from rfl⟩
theorem txs : Statement (.txs) := ⟨rfl, rfl, fun b1 b2 =>
  show (decodeOpcode 0x9A b1 b2).map Instr.form = _ from rfl⟩
theorem pha : Statement (.pha) := ⟨rfl, rfl, fun b1 b2 =>
  show (decodeOpcode 0x48 b1 b2).map Instr.form = _ from rfl⟩
theorem php : Statement (.php) := ⟨rfl, rfl, fun b1 b2 =>
  show (decodeOpcode 0x08 b1 b2).map Instr.form = _ from rfl⟩
theorem pla : Statement (.pla) := ⟨rfl, rfl, fun b1 b2 =>
  show (decodeOpcode 0x68 b1 b2).map Instr.form = _ from rfl⟩
theorem plp : Statement (.plp) := ⟨rfl, rfl, fun b1 b2 =>
  show (decodeOpcode 0x28 b1 b2).map Instr.form = _ from rfl⟩
theorem adcImm (v : Byte) : Statement (.adcImm v) := ⟨rfl, rfl, fun b1 b2 =>
  show (decodeOpcode 0x69 b1 b2).map Instr.form = _ from rfl⟩
theorem adcZp (a : Byte) : Statement (.adcZp a) := ⟨rfl, rfl, fun b1 b2 =>
  show (decodeOpcode 0x65 b1 b2).map Instr.form = _ from rfl⟩
theorem adcZpX (a : Byte) : Statement (.adcZpX a) := ⟨rfl, rfl, fun b1 b2 =>
  show (decodeOpcode 0x75 b1 b2).map Instr.form = _ from rfl⟩
theorem adcAbs (w : Addr) : Statement (.adcAbs w) := ⟨rfl, rfl, fun b1 b2 =>
  show (decodeOpcode 0x6D b1 b2).map Instr.form = _ from rfl⟩
theorem adcAbsX (w : Addr) : Statement (.adcAbsX w) := ⟨rfl, rfl, fun b1 b2 =>
  show (decodeOpcode 0x7D b1 b2).map Instr.form = _ from rfl⟩
theorem adcAbsY (w : Addr) : Statement (.adcAbsY w) := ⟨rfl, rfl, fun b1 b2 =>
  show (decodeOpcode 0x79 b1 b2).map Instr.form = _ from rfl⟩
theorem adcIndX (a : Byte) : Statement (.adcIndX a) := ⟨rfl, rfl, fun b1 b2 =>
  show (decodeOpcode 0x61 b1 b2).map Instr.form = _ from rfl⟩
theorem adcIndY (a : Byte) : Statement (.adcIndY a) := ⟨rfl, rfl, fun b1 b2 =>
  show (decodeOpcode 0x71 b1 b2).map Instr.form = _ from rfl⟩
theorem sbcImm (v : Byte) : Statement (.sbcImm v) := ⟨rfl, rfl, fun b1 b2 =>
  show (decodeOpcode 0xE9 b1 b2).map Instr.form = _ from rfl⟩
theorem sbcZp (a : Byte) : Statement (.sbcZp a) := ⟨rfl, rfl, fun b1 b2 =>
  show (decodeOpcode 0xE5 b1 b2).map Instr.form = _ from rfl⟩
theorem sbcZpX (a : Byte) : Statement (.sbcZpX a) := ⟨rfl, rfl, fun b1 b2 =>
  show (decodeOpcode 0xF5 b1 b2).map Instr.form = _ from rfl⟩
theorem sbcAbs (w : Addr) : Statement (.sbcAbs w) := ⟨rfl, rfl, fun b1 b2 =>
  show (decodeOpcode 0xED b1 b2).map Instr.form = _ from rfl⟩
theorem sbcAbsX (w : Addr) : Statement (.sbcAbsX w) := ⟨rfl, rfl, fun b1 b2 =>
  show (decodeOpcode 0xFD b1 b2).map Instr.form = _ from rfl⟩
theorem sbcAbsY (w : Addr) : Statement (.sbcAbsY w) := ⟨rfl, rfl, fun b1 b2 =>
  show (decodeOpcode 0xF9 b1 b2).map Instr.form = _ from rfl⟩
theorem sbcIndX (a : Byte) : Statement (.sbcIndX a) := ⟨rfl, rfl, fun b1 b2 =>
  show (decodeOpcode 0xE1 b1 b2).map Instr.form = _ from rfl⟩
theorem sbcIndY (a : Byte) : Statement (.sbcIndY a) := ⟨rfl, rfl, fun b1 b2 =>
  show (decodeOpcode 0xF1 b1 b2).map Instr.form = _ from rfl⟩
theorem cmpImm (v : Byte) : Statement (.cmpImm v) := ⟨rfl, rfl, fun b1 b2 =>
  show (decodeOpcode 0xC9 b1 b2).map Instr.form = _ from rfl⟩
theorem cmpZp (a : Byte) : Statement (.cmpZp a) := ⟨rfl, rfl, fun b1 b2 =>
  show (decodeOpcode 0xC5 b1 b2).map Instr.form = _ from rfl⟩
theorem cmpZpX (a : Byte) : Statement (.cmpZpX a) := ⟨rfl, rfl, fun b1 b2 =>
  show (decodeOpcode 0xD5 b1 b2).map Instr.form = _ from rfl⟩
theorem cmpAbs (w : Addr) : Statement (.cmpAbs w) := ⟨rfl, rfl, fun b1 b2 =>
  show (decodeOpcode 0xCD b1 b2).map Instr.form = _ from rfl⟩
theorem cmpAbsX (w : Addr) : Statement (.cmpAbsX w) := ⟨rfl, rfl, fun b1 b2 =>
  show (decodeOpcode 0xDD b1 b2).map Instr.form = _ from rfl⟩
theorem cmpAbsY (w : Addr) : Statement (.cmpAbsY w) := ⟨rfl, rfl, fun b1 b2 =>
  show (decodeOpcode 0xD9 b1 b2).map Instr.form = _ from rfl⟩
theorem cmpIndX (a : Byte) : Statement (.cmpIndX a) := ⟨rfl, rfl, fun b1 b2 =>
  show (decodeOpcode 0xC1 b1 b2).map Instr.form = _ from rfl⟩
theorem cmpIndY (a : Byte) : Statement (.cmpIndY a) := ⟨rfl, rfl, fun b1 b2 =>
  show (decodeOpcode 0xD1 b1 b2).map Instr.form = _ from rfl⟩
theorem cpxImm (v : Byte) : Statement (.cpxImm v) := ⟨rfl, rfl, fun b1 b2 =>
  show (decodeOpcode 0xE0 b1 b2).map Instr.form = _ from rfl⟩
theorem cpxZp (a : Byte) : Statement (.cpxZp a) := ⟨rfl, rfl, fun b1 b2 =>
  show (decodeOpcode 0xE4 b1 b2).map Instr.form = _ from rfl⟩
theorem cpxAbs (w : Addr) : Statement (.cpxAbs w) := ⟨rfl, rfl, fun b1 b2 =>
  show (decodeOpcode 0xEC b1 b2).map Instr.form = _ from rfl⟩
theorem cpyImm (v : Byte) : Statement (.cpyImm v) := ⟨rfl, rfl, fun b1 b2 =>
  show (decodeOpcode 0xC0 b1 b2).map Instr.form = _ from rfl⟩
theorem cpyZp (a : Byte) : Statement (.cpyZp a) := ⟨rfl, rfl, fun b1 b2 =>
  show (decodeOpcode 0xC4 b1 b2).map Instr.form = _ from rfl⟩
theorem cpyAbs (w : Addr) : Statement (.cpyAbs w) := ⟨rfl, rfl, fun b1 b2 =>
  show (decodeOpcode 0xCC b1 b2).map Instr.form = _ from rfl⟩
theorem incZp (a : Byte) : Statement (.incZp a) := ⟨rfl, rfl, fun b1 b2 =>
  show (decodeOpcode 0xE6 b1 b2).map Instr.form = _ from rfl⟩
theorem incZpX (a : Byte) : Statement (.incZpX a) := ⟨rfl, rfl, fun b1 b2 =>
  show (decodeOpcode 0xF6 b1 b2).map Instr.form = _ from rfl⟩
theorem incAbs (w : Addr) : Statement (.incAbs w) := ⟨rfl, rfl, fun b1 b2 =>
  show (decodeOpcode 0xEE b1 b2).map Instr.form = _ from rfl⟩
theorem incAbsX (w : Addr) : Statement (.incAbsX w) := ⟨rfl, rfl, fun b1 b2 =>
  show (decodeOpcode 0xFE b1 b2).map Instr.form = _ from rfl⟩
theorem decZp (a : Byte) : Statement (.decZp a) := ⟨rfl, rfl, fun b1 b2 =>
  show (decodeOpcode 0xC6 b1 b2).map Instr.form = _ from rfl⟩
theorem decZpX (a : Byte) : Statement (.decZpX a) := ⟨rfl, rfl, fun b1 b2 =>
  show (decodeOpcode 0xD6 b1 b2).map Instr.form = _ from rfl⟩
theorem decAbs (w : Addr) : Statement (.decAbs w) := ⟨rfl, rfl, fun b1 b2 =>
  show (decodeOpcode 0xCE b1 b2).map Instr.form = _ from rfl⟩
theorem decAbsX (w : Addr) : Statement (.decAbsX w) := ⟨rfl, rfl, fun b1 b2 =>
  show (decodeOpcode 0xDE b1 b2).map Instr.form = _ from rfl⟩
theorem inx : Statement (.inx) := ⟨rfl, rfl, fun b1 b2 =>
  show (decodeOpcode 0xE8 b1 b2).map Instr.form = _ from rfl⟩
theorem iny : Statement (.iny) := ⟨rfl, rfl, fun b1 b2 =>
  show (decodeOpcode 0xC8 b1 b2).map Instr.form = _ from rfl⟩
theorem dex : Statement (.dex) := ⟨rfl, rfl, fun b1 b2 =>
  show (decodeOpcode 0xCA b1 b2).map Instr.form = _ from rfl⟩
theorem dey : Statement (.dey) := ⟨rfl, rfl, fun b1 b2 =>
  show (decodeOpcode 0x88 b1 b2).map Instr.form = _ from rfl⟩
theorem andImm (v : Byte) : Statement (.andImm v) := ⟨rfl, rfl, fun b1 b2 =>
  show (decodeOpcode 0x29 b1 b2).map Instr.form = _ from rfl⟩
theorem andZp (a : Byte) : Statement (.andZp a) := ⟨rfl, rfl, fun b1 b2 =>
  show (decodeOpcode 0x25 b1 b2).map Instr.form = _ from rfl⟩
theorem andZpX (a : Byte) : Statement (.andZpX a) := ⟨rfl, rfl, fun b1 b2 =>
  show (decodeOpcode 0x35 b1 b2).map Instr.form = _ from rfl⟩
theorem andAbs (w : Addr) : Statement (.andAbs w) := ⟨rfl, rfl, fun b1 b2 =>
  show (decodeOpcode 0x2D b1 b2).map Instr.form = _ from rfl⟩
theorem andAbsX (w : Addr) : Statement (.andAbsX w) := ⟨rfl, rfl, fun b1 b2 =>
  show (decodeOpcode 0x3D b1 b2).map Instr.form = _ from rfl⟩
theorem andAbsY (w : Addr) : Statement (.andAbsY w) := ⟨rfl, rfl, fun b1 b2 =>
  show (decodeOpcode 0x39 b1 b2).map Instr.form = _ from rfl⟩
theorem andIndX (a : Byte) : Statement (.andIndX a) := ⟨rfl, rfl, fun b1 b2 =>
  show (decodeOpcode 0x21 b1 b2).map Instr.form = _ from rfl⟩
theorem andIndY (a : Byte) : Statement (.andIndY a) := ⟨rfl, rfl, fun b1 b2 =>
  show (decodeOpcode 0x31 b1 b2).map Instr.form = _ from rfl⟩
theorem oraImm (v : Byte) : Statement (.oraImm v) := ⟨rfl, rfl, fun b1 b2 =>
  show (decodeOpcode 0x09 b1 b2).map Instr.form = _ from rfl⟩
theorem oraZp (a : Byte) : Statement (.oraZp a) := ⟨rfl, rfl, fun b1 b2 =>
  show (decodeOpcode 0x05 b1 b2).map Instr.form = _ from rfl⟩
theorem oraZpX (a : Byte) : Statement (.oraZpX a) := ⟨rfl, rfl, fun b1 b2 =>
  show (decodeOpcode 0x15 b1 b2).map Instr.form = _ from rfl⟩
theorem oraAbs (w : Addr) : Statement (.oraAbs w) := ⟨rfl, rfl, fun b1 b2 =>
  show (decodeOpcode 0x0D b1 b2).map Instr.form = _ from rfl⟩
theorem oraAbsX (w : Addr) : Statement (.oraAbsX w) := ⟨rfl, rfl, fun b1 b2 =>
  show (decodeOpcode 0x1D b1 b2).map Instr.form = _ from rfl⟩
theorem oraAbsY (w : Addr) : Statement (.oraAbsY w) := ⟨rfl, rfl, fun b1 b2 =>
  show (decodeOpcode 0x19 b1 b2).map Instr.form = _ from rfl⟩
theorem oraIndX (a : Byte) : Statement (.oraIndX a) := ⟨rfl, rfl, fun b1 b2 =>
  show (decodeOpcode 0x01 b1 b2).map Instr.form = _ from rfl⟩
theorem oraIndY (a : Byte) : Statement (.oraIndY a) := ⟨rfl, rfl, fun b1 b2 =>
  show (decodeOpcode 0x11 b1 b2).map Instr.form = _ from rfl⟩
theorem eorImm (v : Byte) : Statement (.eorImm v) := ⟨rfl, rfl, fun b1 b2 =>
  show (decodeOpcode 0x49 b1 b2).map Instr.form = _ from rfl⟩
theorem eorZp (a : Byte) : Statement (.eorZp a) := ⟨rfl, rfl, fun b1 b2 =>
  show (decodeOpcode 0x45 b1 b2).map Instr.form = _ from rfl⟩
theorem eorZpX (a : Byte) : Statement (.eorZpX a) := ⟨rfl, rfl, fun b1 b2 =>
  show (decodeOpcode 0x55 b1 b2).map Instr.form = _ from rfl⟩
theorem eorAbs (w : Addr) : Statement (.eorAbs w) := ⟨rfl, rfl, fun b1 b2 =>
  show (decodeOpcode 0x4D b1 b2).map Instr.form = _ from rfl⟩
theorem eorAbsX (w : Addr) : Statement (.eorAbsX w) := ⟨rfl, rfl, fun b1 b2 =>
  show (decodeOpcode 0x5D b1 b2).map Instr.form = _ from rfl⟩
theorem eorAbsY (w : Addr) : Statement (.eorAbsY w) := ⟨rfl, rfl, fun b1 b2 =>
  show (decodeOpcode 0x59 b1 b2).map Instr.form = _ from rfl⟩
theorem eorIndX (a : Byte) : Statement (.eorIndX a) := ⟨rfl, rfl, fun b1 b2 =>
  show (decodeOpcode 0x41 b1 b2).map Instr.form = _ from rfl⟩
theorem eorIndY (a : Byte) : Statement (.eorIndY a) := ⟨rfl, rfl, fun b1 b2 =>
  show (decodeOpcode 0x51 b1 b2).map Instr.form = _ from rfl⟩
theorem bitZp (a : Byte) : Statement (.bitZp a) := ⟨rfl, rfl, fun b1 b2 =>
  show (decodeOpcode 0x24 b1 b2).map Instr.form = _ from rfl⟩
theorem bitAbs (w : Addr) : Statement (.bitAbs w) := ⟨rfl, rfl, fun b1 b2 =>
  show (decodeOpcode 0x2C b1 b2).map Instr.form = _ from rfl⟩
theorem aslAcc : Statement (.aslAcc) := ⟨rfl, rfl, fun b1 b2 =>
  show (decodeOpcode 0x0A b1 b2).map Instr.form = _ from rfl⟩
theorem aslZp (a : Byte) : Statement (.aslZp a) := ⟨rfl, rfl, fun b1 b2 =>
  show (decodeOpcode 0x06 b1 b2).map Instr.form = _ from rfl⟩
theorem aslZpX (a : Byte) : Statement (.aslZpX a) := ⟨rfl, rfl, fun b1 b2 =>
  show (decodeOpcode 0x16 b1 b2).map Instr.form = _ from rfl⟩
theorem aslAbs (w : Addr) : Statement (.aslAbs w) := ⟨rfl, rfl, fun b1 b2 =>
  show (decodeOpcode 0x0E b1 b2).map Instr.form = _ from rfl⟩
theorem aslAbsX (w : Addr) : Statement (.aslAbsX w) := ⟨rfl, rfl, fun b1 b2 =>
  show (decodeOpcode 0x1E b1 b2).map Instr.form = _ from rfl⟩
theorem lsrAcc : Statement (.lsrAcc) := ⟨rfl, rfl, fun b1 b2 =>
  show (decodeOpcode 0x4A b1 b2).map Instr.form = _ from rfl⟩
theorem lsrZp (a : Byte) : Statement (.lsrZp a) := ⟨rfl, rfl, fun b1 b2 =>
  show (decodeOpcode 0x46 b1 b2).map Instr.form = _ from rfl⟩
theorem lsrZpX (a : Byte) : Statement (.lsrZpX a) := ⟨rfl, rfl, fun b1 b2 =>
  show (decodeOpcode 0x56 b1 b2).map Instr.form = _ from rfl⟩
theorem lsrAbs (w : Addr) : Statement (.lsrAbs w) := ⟨rfl, rfl, fun b1 b2 =>
  show (decodeOpcode 0x4E b1 b2).map Instr.form = _ from rfl⟩
theorem lsrAbsX (w : Addr) : Statement (.lsrAbsX w) := ⟨rfl, rfl, fun b1 b2 =>
  show (decodeOpcode 0x5E b1 b2).map Instr.form = _ from rfl⟩
theorem rolAcc : Statement (.rolAcc) := ⟨rfl, rfl, fun b1 b2 =>
  show (decodeOpcode 0x2A b1 b2).map Instr.form = _ from rfl⟩
theorem rolZp (a : Byte) : Statement (.rolZp a) := ⟨rfl, rfl, fun b1 b2 =>
  show (decodeOpcode 0x26 b1 b2).map Instr.form = _ from rfl⟩
theorem rolZpX (a : Byte) : Statement (.rolZpX a) := ⟨rfl, rfl, fun b1 b2 =>
  show (decodeOpcode 0x36 b1 b2).map Instr.form = _ from rfl⟩
theorem rolAbs (w : Addr) : Statement (.rolAbs w) := ⟨rfl, rfl, fun b1 b2 =>
  show (decodeOpcode 0x2E b1 b2).map Instr.form = _ from rfl⟩
theorem rolAbsX (w : Addr) : Statement (.rolAbsX w) := ⟨rfl, rfl, fun b1 b2 =>
  show (decodeOpcode 0x3E b1 b2).map Instr.form = _ from rfl⟩
theorem rorAcc : Statement (.rorAcc) := ⟨rfl, rfl, fun b1 b2 =>
  show (decodeOpcode 0x6A b1 b2).map Instr.form = _ from rfl⟩
theorem rorZp (a : Byte) : Statement (.rorZp a) := ⟨rfl, rfl, fun b1 b2 =>
  show (decodeOpcode 0x66 b1 b2).map Instr.form = _ from rfl⟩
theorem rorZpX (a : Byte) : Statement (.rorZpX a) := ⟨rfl, rfl, fun b1 b2 =>
  show (decodeOpcode 0x76 b1 b2).map Instr.form = _ from rfl⟩
theorem rorAbs (w : Addr) : Statement (.rorAbs w) := ⟨rfl, rfl, fun b1 b2 =>
  show (decodeOpcode 0x6E b1 b2).map Instr.form = _ from rfl⟩
theorem rorAbsX (w : Addr) : Statement (.rorAbsX w) := ⟨rfl, rfl, fun b1 b2 =>
  show (decodeOpcode 0x7E b1 b2).map Instr.form = _ from rfl⟩
theorem bpl (off : Byte) : Statement (.bpl off) := ⟨rfl, rfl, fun b1 b2 =>
  show (decodeOpcode 0x10 b1 b2).map Instr.form = _ from rfl⟩
theorem bmi (off : Byte) : Statement (.bmi off) := ⟨rfl, rfl, fun b1 b2 =>
  show (decodeOpcode 0x30 b1 b2).map Instr.form = _ from rfl⟩
theorem bvc (off : Byte) : Statement (.bvc off) := ⟨rfl, rfl, fun b1 b2 =>
  show (decodeOpcode 0x50 b1 b2).map Instr.form = _ from rfl⟩
theorem bvs (off : Byte) : Statement (.bvs off) := ⟨rfl, rfl, fun b1 b2 =>
  show (decodeOpcode 0x70 b1 b2).map Instr.form = _ from rfl⟩
theorem bcc (off : Byte) : Statement (.bcc off) := ⟨rfl, rfl, fun b1 b2 =>
  show (decodeOpcode 0x90 b1 b2).map Instr.form = _ from rfl⟩
theorem bcs (off : Byte) : Statement (.bcs off) := ⟨rfl, rfl, fun b1 b2 =>
  show (decodeOpcode 0xB0 b1 b2).map Instr.form = _ from rfl⟩
theorem bne (off : Byte) : Statement (.bne off) := ⟨rfl, rfl, fun b1 b2 =>
  show (decodeOpcode 0xD0 b1 b2).map Instr.form = _ from rfl⟩
theorem beq (off : Byte) : Statement (.beq off) := ⟨rfl, rfl, fun b1 b2 =>
  show (decodeOpcode 0xF0 b1 b2).map Instr.form = _ from rfl⟩
theorem jmpAbs (w : Addr) : Statement (.jmpAbs w) := ⟨rfl, rfl, fun b1 b2 =>
  show (decodeOpcode 0x4C b1 b2).map Instr.form = _ from rfl⟩
theorem jmpInd (w : Addr) : Statement (.jmpInd w) := ⟨rfl, rfl, fun b1 b2 =>
  show (decodeOpcode 0x6C b1 b2).map Instr.form = _ from rfl⟩
theorem jsr (w : Addr) : Statement (.jsr w) := ⟨rfl, rfl, fun b1 b2 =>
  show (decodeOpcode 0x20 b1 b2).map Instr.form = _ from rfl⟩
theorem rts : Statement (.rts) := ⟨rfl, rfl, fun b1 b2 =>
  show (decodeOpcode 0x60 b1 b2).map Instr.form = _ from rfl⟩
theorem brk : Statement (.brk) := ⟨rfl, rfl, fun b1 b2 =>
  show (decodeOpcode 0x00 b1 b2).map Instr.form = _ from rfl⟩
theorem rti : Statement (.rti) := ⟨rfl, rfl, fun b1 b2 =>
  show (decodeOpcode 0x40 b1 b2).map Instr.form = _ from rfl⟩
theorem clc : Statement (.clc) := ⟨rfl, rfl, fun b1 b2 =>
  show (decodeOpcode 0x18 b1 b2).map Instr.form = _ from rfl⟩
theorem sec : Statement (.sec) := ⟨rfl, rfl, fun b1 b2 =>
  show (decodeOpcode 0x38 b1 b2).map Instr.form = _ from rfl⟩
theorem cli : Statement (.cli) := ⟨rfl, rfl, fun b1 b2 =>
  show (decodeOpcode 0x58 b1 b2).map Instr.form = _ from rfl⟩
theorem sei : Statement (.sei) := ⟨rfl, rfl, fun b1 b2 =>
  show (decodeOpcode 0x78 b1 b2).map Instr.form = _ from rfl⟩
theorem clv : Statement (.clv) := ⟨rfl, rfl, fun b1 b2 =>
  show (decodeOpcode 0xB8 b1 b2).map Instr.form = _ from rfl⟩
theorem cld : Statement (.cld) := ⟨rfl, rfl, fun b1 b2 =>
  show (decodeOpcode 0xD8 b1 b2).map Instr.form = _ from rfl⟩
theorem sed : Statement (.sed) := ⟨rfl, rfl, fun b1 b2 =>
  show (decodeOpcode 0xF8 b1 b2).map Instr.form = _ from rfl⟩
theorem nop : Statement (.nop) := ⟨rfl, rfl, fun b1 b2 =>
  show (decodeOpcode 0xEA b1 b2).map Instr.form = _ from rfl⟩

end Sys2Proof.Laws.EncodedForm
end

