-- ==== Sys2Proof/Laws/Step.lean ====
section
/-!
SUPPORT. What a step can do, said once: it is refused outside Running, faults on an opcode without a descriptor, and
otherwise is the instruction's own meaning (41_execution_engine.md R150 to R152).
-/

namespace Sys2Proof.Machine

/-- The inversion of a step that goes on. -/
theorem step_next {s t : State} (h : step s = .next t) :
    s.mode = .running ∧ ∃ i, s.fetch = .ok i ∧ exec i s = .next t := by
  unfold step at h
  split at h
  · cases h
  · cases h
  · next hm =>
    split at h
    · next i hf => exact ⟨hm, i, hf, h⟩
    · cases h

/-- In Running, a step is decided by the fetch. -/
theorem step_running {s : State} (h : s.mode = .running) :
    step s = match s.fetch with
      | .ok i => exec i s
      | .error f => .fault f := by
  cases s
  cases h
  rfl

/-- The fetch reads the three bytes from PC on and nothing else. -/
theorem State.fetch_ok {s : State} {i : Instr} :
    s.fetch = .ok i ↔ decodeOpcode (s.read s.pc) (s.read (s.pc + 1)) (s.read (s.pc + 2)) = some i := by
  simp only [State.fetch]
  split
  · next j h => rw [h]; exact ⟨(fun e => by cases e; rfl), (fun e => by cases e; rfl)⟩
  · next h => rw [h]; exact ⟨(fun e => by cases e), (fun e => by cases e)⟩

/-- `runHost` after a step that goes on. -/
theorem runHost_next {s t : State} {n : Nat} (h : step s = .next t) :
    runHost (n + 1) s = { runHost n t with steps := (runHost n t).steps + 1 } := by
  simp [runHost, h]

end Sys2Proof.Machine
end

