-- ==== Sys2Proof/Tests/Slice0.lean ====
section
/-!
SUPPORT. The model's own tests. The decode words are written from 30_encoding.md R93 (opcode) and R99 (operand order);
the step tests are the vectors of 95_test_vectors.md sections 1 and 2, each one step on a small state, checking the
registers, the cells the vector lists and the cycles added. At the end, a state for the hypotheses of each statement.
-/

set_option Elab.async false

namespace Sys2Proof.Tests

open Sys2Proof.Machine

/-! ### Well-formedness: forms that do not exist (40_addressing_modes.md R137 names the first two) -/

theorem test_form_sta_imm_refused : Form.admitted ⟨.sta, .imm⟩ = false := by decide

theorem test_form_ldx_zpX_refused : Form.admitted ⟨.ldx, .zpX⟩ = false := by decide

theorem test_form_inc_acc_refused : Form.admitted ⟨.inc, .acc⟩ = false := by decide

theorem test_form_lda_imm_admitted : Form.admitted ⟨.lda, .imm⟩ = true := by decide

/-! ### Decoding: one word for each of the 151 rows of the opcode table, operand byte 0x9C or bytes 0x34, 0x12 -/

theorem test_decode_row_0x :
    [
      decodeTableWord 8 0x00, decodeTableWord 16 0x9C01, decodeTableWord 16 0x9C05, decodeTableWord 16 0x9C06,
      decodeTableWord 8 0x08, decodeTableWord 16 0x9C09, decodeTableWord 8 0x0A, decodeTableWord 24 0x12340D,
      decodeTableWord 24 0x12340E] = [
      some .brk, some (.oraIndX 0x9C), some (.oraZp 0x9C), some (.aslZp 0x9C), some .php, some (.oraImm 0x9C),
      some .aslAcc, some (.oraAbs 0x1234), some (.aslAbs 0x1234)] := by
  decide +kernel

theorem test_decode_row_1x :
    [
      decodeTableWord 16 0x9C10, decodeTableWord 16 0x9C11, decodeTableWord 16 0x9C15, decodeTableWord 16 0x9C16,
      decodeTableWord 8 0x18, decodeTableWord 24 0x123419, decodeTableWord 24 0x12341D, decodeTableWord 24 0x12341E] = [
      some (.bpl 0x9C), some (.oraIndY 0x9C), some (.oraZpX 0x9C), some (.aslZpX 0x9C), some .clc,
      some (.oraAbsY 0x1234), some (.oraAbsX 0x1234), some (.aslAbsX 0x1234)] := by
  decide +kernel

theorem test_decode_row_2x :
    [
      decodeTableWord 24 0x123420, decodeTableWord 16 0x9C21, decodeTableWord 16 0x9C24, decodeTableWord 16 0x9C25,
      decodeTableWord 16 0x9C26, decodeTableWord 8 0x28, decodeTableWord 16 0x9C29, decodeTableWord 8 0x2A,
      decodeTableWord 24 0x12342C, decodeTableWord 24 0x12342D, decodeTableWord 24 0x12342E] = [
      some (.jsr 0x1234), some (.andIndX 0x9C), some (.bitZp 0x9C), some (.andZp 0x9C), some (.rolZp 0x9C),
      some .plp, some (.andImm 0x9C), some .rolAcc, some (.bitAbs 0x1234), some (.andAbs 0x1234),
      some (.rolAbs 0x1234)] := by
  decide +kernel

theorem test_decode_row_3x :
    [
      decodeTableWord 16 0x9C30, decodeTableWord 16 0x9C31, decodeTableWord 16 0x9C35, decodeTableWord 16 0x9C36,
      decodeTableWord 8 0x38, decodeTableWord 24 0x123439, decodeTableWord 24 0x12343D, decodeTableWord 24 0x12343E] = [
      some (.bmi 0x9C), some (.andIndY 0x9C), some (.andZpX 0x9C), some (.rolZpX 0x9C), some .sec,
      some (.andAbsY 0x1234), some (.andAbsX 0x1234), some (.rolAbsX 0x1234)] := by
  decide +kernel

theorem test_decode_row_4x :
    [
      decodeTableWord 8 0x40, decodeTableWord 16 0x9C41, decodeTableWord 16 0x9C45, decodeTableWord 16 0x9C46,
      decodeTableWord 8 0x48, decodeTableWord 16 0x9C49, decodeTableWord 8 0x4A, decodeTableWord 24 0x12344C,
      decodeTableWord 24 0x12344D, decodeTableWord 24 0x12344E] = [
      some .rti, some (.eorIndX 0x9C), some (.eorZp 0x9C), some (.lsrZp 0x9C), some .pha, some (.eorImm 0x9C),
      some .lsrAcc, some (.jmpAbs 0x1234), some (.eorAbs 0x1234), some (.lsrAbs 0x1234)] := by
  decide +kernel

theorem test_decode_row_5x :
    [
      decodeTableWord 16 0x9C50, decodeTableWord 16 0x9C51, decodeTableWord 16 0x9C55, decodeTableWord 16 0x9C56,
      decodeTableWord 8 0x58, decodeTableWord 24 0x123459, decodeTableWord 24 0x12345D, decodeTableWord 24 0x12345E] = [
      some (.bvc 0x9C), some (.eorIndY 0x9C), some (.eorZpX 0x9C), some (.lsrZpX 0x9C), some .cli,
      some (.eorAbsY 0x1234), some (.eorAbsX 0x1234), some (.lsrAbsX 0x1234)] := by
  decide +kernel

theorem test_decode_row_6x :
    [
      decodeTableWord 8 0x60, decodeTableWord 16 0x9C61, decodeTableWord 16 0x9C65, decodeTableWord 16 0x9C66,
      decodeTableWord 8 0x68, decodeTableWord 16 0x9C69, decodeTableWord 8 0x6A, decodeTableWord 24 0x12346C,
      decodeTableWord 24 0x12346D, decodeTableWord 24 0x12346E] = [
      some .rts, some (.adcIndX 0x9C), some (.adcZp 0x9C), some (.rorZp 0x9C), some .pla, some (.adcImm 0x9C),
      some .rorAcc, some (.jmpInd 0x1234), some (.adcAbs 0x1234), some (.rorAbs 0x1234)] := by
  decide +kernel

theorem test_decode_row_7x :
    [
      decodeTableWord 16 0x9C70, decodeTableWord 16 0x9C71, decodeTableWord 16 0x9C75, decodeTableWord 16 0x9C76,
      decodeTableWord 8 0x78, decodeTableWord 24 0x123479, decodeTableWord 24 0x12347D, decodeTableWord 24 0x12347E] = [
      some (.bvs 0x9C), some (.adcIndY 0x9C), some (.adcZpX 0x9C), some (.rorZpX 0x9C), some .sei,
      some (.adcAbsY 0x1234), some (.adcAbsX 0x1234), some (.rorAbsX 0x1234)] := by
  decide +kernel

theorem test_decode_row_8x :
    [
      decodeTableWord 16 0x9C81, decodeTableWord 16 0x9C84, decodeTableWord 16 0x9C85, decodeTableWord 16 0x9C86,
      decodeTableWord 8 0x88, decodeTableWord 8 0x8A, decodeTableWord 24 0x12348C, decodeTableWord 24 0x12348D,
      decodeTableWord 24 0x12348E] = [
      some (.staIndX 0x9C), some (.styZp 0x9C), some (.staZp 0x9C), some (.stxZp 0x9C), some .dey, some .txa,
      some (.styAbs 0x1234), some (.staAbs 0x1234), some (.stxAbs 0x1234)] := by
  decide +kernel

theorem test_decode_row_9x :
    [
      decodeTableWord 16 0x9C90, decodeTableWord 16 0x9C91, decodeTableWord 16 0x9C94, decodeTableWord 16 0x9C95,
      decodeTableWord 16 0x9C96, decodeTableWord 8 0x98, decodeTableWord 24 0x123499, decodeTableWord 8 0x9A,
      decodeTableWord 24 0x12349D] = [
      some (.bcc 0x9C), some (.staIndY 0x9C), some (.styZpX 0x9C), some (.staZpX 0x9C), some (.stxZpY 0x9C),
      some .tya, some (.staAbsY 0x1234), some .txs, some (.staAbsX 0x1234)] := by
  decide +kernel

theorem test_decode_row_Ax :
    [
      decodeTableWord 16 0x9CA0, decodeTableWord 16 0x9CA1, decodeTableWord 16 0x9CA2, decodeTableWord 16 0x9CA4,
      decodeTableWord 16 0x9CA5, decodeTableWord 16 0x9CA6, decodeTableWord 8 0xA8, decodeTableWord 16 0x9CA9,
      decodeTableWord 8 0xAA, decodeTableWord 24 0x1234AC, decodeTableWord 24 0x1234AD, decodeTableWord 24 0x1234AE] = [
      some (.ldyImm 0x9C), some (.ldaIndX 0x9C), some (.ldxImm 0x9C), some (.ldyZp 0x9C), some (.ldaZp 0x9C),
      some (.ldxZp 0x9C), some .tay, some (.ldaImm 0x9C), some .tax, some (.ldyAbs 0x1234), some (.ldaAbs 0x1234),
      some (.ldxAbs 0x1234)] := by
  decide +kernel

theorem test_decode_row_Bx :
    [
      decodeTableWord 16 0x9CB0, decodeTableWord 16 0x9CB1, decodeTableWord 16 0x9CB4, decodeTableWord 16 0x9CB5,
      decodeTableWord 16 0x9CB6, decodeTableWord 8 0xB8, decodeTableWord 24 0x1234B9, decodeTableWord 8 0xBA,
      decodeTableWord 24 0x1234BC, decodeTableWord 24 0x1234BD, decodeTableWord 24 0x1234BE] = [
      some (.bcs 0x9C), some (.ldaIndY 0x9C), some (.ldyZpX 0x9C), some (.ldaZpX 0x9C), some (.ldxZpY 0x9C),
      some .clv, some (.ldaAbsY 0x1234), some .tsx, some (.ldyAbsX 0x1234), some (.ldaAbsX 0x1234),
      some (.ldxAbsY 0x1234)] := by
  decide +kernel

theorem test_decode_row_Cx :
    [
      decodeTableWord 16 0x9CC0, decodeTableWord 16 0x9CC1, decodeTableWord 16 0x9CC4, decodeTableWord 16 0x9CC5,
      decodeTableWord 16 0x9CC6, decodeTableWord 8 0xC8, decodeTableWord 16 0x9CC9, decodeTableWord 8 0xCA,
      decodeTableWord 24 0x1234CC, decodeTableWord 24 0x1234CD, decodeTableWord 24 0x1234CE] = [
      some (.cpyImm 0x9C), some (.cmpIndX 0x9C), some (.cpyZp 0x9C), some (.cmpZp 0x9C), some (.decZp 0x9C),
      some .iny, some (.cmpImm 0x9C), some .dex, some (.cpyAbs 0x1234), some (.cmpAbs 0x1234), some (.decAbs 0x1234)] := by
  decide +kernel

theorem test_decode_row_Dx :
    [
      decodeTableWord 16 0x9CD0, decodeTableWord 16 0x9CD1, decodeTableWord 16 0x9CD5, decodeTableWord 16 0x9CD6,
      decodeTableWord 8 0xD8, decodeTableWord 24 0x1234D9, decodeTableWord 24 0x1234DD, decodeTableWord 24 0x1234DE] = [
      some (.bne 0x9C), some (.cmpIndY 0x9C), some (.cmpZpX 0x9C), some (.decZpX 0x9C), some .cld,
      some (.cmpAbsY 0x1234), some (.cmpAbsX 0x1234), some (.decAbsX 0x1234)] := by
  decide +kernel

theorem test_decode_row_Ex :
    [
      decodeTableWord 16 0x9CE0, decodeTableWord 16 0x9CE1, decodeTableWord 16 0x9CE4, decodeTableWord 16 0x9CE5,
      decodeTableWord 16 0x9CE6, decodeTableWord 8 0xE8, decodeTableWord 16 0x9CE9, decodeTableWord 8 0xEA,
      decodeTableWord 24 0x1234EC, decodeTableWord 24 0x1234ED, decodeTableWord 24 0x1234EE] = [
      some (.cpxImm 0x9C), some (.sbcIndX 0x9C), some (.cpxZp 0x9C), some (.sbcZp 0x9C), some (.incZp 0x9C),
      some .inx, some (.sbcImm 0x9C), some .nop, some (.cpxAbs 0x1234), some (.sbcAbs 0x1234), some (.incAbs 0x1234)] := by
  decide +kernel

theorem test_decode_row_Fx :
    [
      decodeTableWord 16 0x9CF0, decodeTableWord 16 0x9CF1, decodeTableWord 16 0x9CF5, decodeTableWord 16 0x9CF6,
      decodeTableWord 8 0xF8, decodeTableWord 24 0x1234F9, decodeTableWord 24 0x1234FD, decodeTableWord 24 0x1234FE] = [
      some (.beq 0x9C), some (.sbcIndY 0x9C), some (.sbcZpX 0x9C), some (.incZpX 0x9C), some .sed,
      some (.sbcAbsY 0x1234), some (.sbcAbsX 0x1234), some (.incAbsX 0x1234)] := by
  decide +kernel

/-! ### One step: the vectors of 95_test_vectors.md -/

/-- The start state of the vectors: Running, CYC 0, the instruction's bytes at PC, every other cell 0x00 unless listed. -/
def start (bytes : List Byte) (pc : Addr := 0x0200) (a : Byte := 0x00) (x : Byte := 0x00) (y : Byte := 0x00)
    (sp : Byte := 0xFF) (p : Byte := 0x24) (cells : List (Addr × Byte) := []) : State :=
  let s : State := ⟨a, x, y, sp, pc, p, 0, [], .running⟩
  (cells.foldl (fun t c => t.write c.1 c.2) s).writeBytes pc bytes

/-- What a vector lists after the step: the registers with the cycles added, and some cells. -/
def view (s : State) (cells : List Addr) : Option (RegView × List Byte) :=
  match step s with
  | .next t => some (⟨t.a, t.x, t.y, t.sp, t.pc, t.p, t.cyc⟩, cells.map t.read)
  | .fault _ | .refused _ => none

theorem test_lda_modes :
    [ view (start [0xA5, 0x10] (cells := [(0x0010, 0x55)])) [],
      view (start [0xB5, 0xF0] (x := 0x20) (cells := [(0x0010, 0x66), (0x0110, 0x99)])) [],
      view (start [0xAD, 0x34, 0x12] (cells := [(0x1234, 0x01)])) [],
      view (start [0xBD, 0x80, 0x12] (x := 0x10) (cells := [(0x1290, 0x11)])) [],
      view (start [0xBD, 0xFF, 0x12] (x := 0x01) (cells := [(0x1300, 0x22)])) [],
      view (start [0xB9, 0xFF, 0xFF] (y := 0x01) (cells := [(0x0000, 0x33)])) [],
      view (start [0xA1, 0x20] (x := 0x04) (cells := [(0x0024, 0x74), (0x0025, 0x20), (0x2074, 0x5A)])) [],
      view (start [0xA1, 0xFF] (cells := [(0x0000, 0x30), (0x00FF, 0x00), (0x0100, 0x40), (0x3000, 0x5B)])) [],
      view (start [0xB1, 0x86] (y := 0x10) (cells := [(0x0086, 0x28), (0x0087, 0x40), (0x4038, 0x5C)])) [],
      view (start [0xB1, 0x86] (y := 0xE0) (cells := [(0x0086, 0x28), (0x0087, 0x40), (0x4108, 0x5D)])) [] ] =
    [ some (⟨0x55, 0x00, 0x00, 0xFF, 0x0202, 0x24, 3⟩, []),
      some (⟨0x66, 0x20, 0x00, 0xFF, 0x0202, 0x24, 4⟩, []),
      some (⟨0x01, 0x00, 0x00, 0xFF, 0x0203, 0x24, 4⟩, []),
      some (⟨0x11, 0x10, 0x00, 0xFF, 0x0203, 0x24, 4⟩, []),
      some (⟨0x22, 0x01, 0x00, 0xFF, 0x0203, 0x24, 5⟩, []),
      some (⟨0x33, 0x00, 0x01, 0xFF, 0x0203, 0x24, 5⟩, []),
      some (⟨0x5A, 0x04, 0x00, 0xFF, 0x0202, 0x24, 6⟩, []),
      some (⟨0x5B, 0x00, 0x00, 0xFF, 0x0202, 0x24, 6⟩, []),
      some (⟨0x5C, 0x00, 0x10, 0xFF, 0x0202, 0x24, 5⟩, []),
      some (⟨0x5D, 0x00, 0xE0, 0xFF, 0x0202, 0x24, 6⟩, []) ] := by
  decide +kernel

theorem test_lda_imm :
    [ view (start [0xA9, 0x42]) [],
      view (start [0xA9, 0x82]) [],
      view (start [0xA9, 0x00] (a := 0x10)) [] ] =
    [ some (⟨0x42, 0x00, 0x00, 0xFF, 0x0202, 0x24, 2⟩, []),
      some (⟨0x82, 0x00, 0x00, 0xFF, 0x0202, 0xA4, 2⟩, []),
      some (⟨0x00, 0x00, 0x00, 0xFF, 0x0202, 0x26, 2⟩, []) ] := by
  decide +kernel

theorem test_ldx :
    [ view (start [0xB6, 0xFF] (y := 0x02) (cells := [(0x0001, 0x77)])) [],
      view (start [0xA2, 0xFF]) [],
      view (start [0xBE, 0xFF, 0x20] (y := 0x01) (cells := [(0x2100, 0x80)])) [] ] =
    [ some (⟨0x00, 0x77, 0x02, 0xFF, 0x0202, 0x24, 4⟩, []),
      some (⟨0x00, 0xFF, 0x00, 0xFF, 0x0202, 0xA4, 2⟩, []),
      some (⟨0x00, 0x80, 0x01, 0xFF, 0x0203, 0xA4, 5⟩, []) ] := by
  decide +kernel

theorem test_ldy :
    [ view (start [0xA0, 0x00] (y := 0x05)) [],
      view (start [0xBC, 0x00, 0x20] (x := 0x05) (cells := [(0x2005, 0x7F)])) [] ] =
    [ some (⟨0x00, 0x00, 0x00, 0xFF, 0x0202, 0x26, 2⟩, []),
      some (⟨0x00, 0x05, 0x7F, 0xFF, 0x0203, 0x24, 4⟩, []) ] := by
  decide +kernel

theorem test_sta :
    [ view (start [0x9D, 0xFF, 0x12] (a := 0x44) (x := 0x01)) [0x1300],
      view (start [0x91, 0x86] (a := 0x01) (y := 0xE0) (cells := [(0x0086, 0x28), (0x0087, 0x40)])) [0x4108],
      view (start [0x85, 0x10] (p := 0xA5)) [0x0010] ] =
    [ some (⟨0x44, 0x01, 0x00, 0xFF, 0x0203, 0x24, 5⟩, [0x44]),
      some (⟨0x01, 0x00, 0xE0, 0xFF, 0x0202, 0x24, 6⟩, [0x01]),
      some (⟨0x00, 0x00, 0x00, 0xFF, 0x0202, 0xA5, 3⟩, [0x00]) ] := by
  decide +kernel

theorem test_stx :
    view (start [0x96, 0xFF] (x := 0x9A) (y := 0x01)) [0x0000] =
      some (⟨0x00, 0x9A, 0x01, 0xFF, 0x0202, 0x24, 4⟩, [0x9A]) := by
  decide +kernel

theorem test_sty :
    view (start [0x8C, 0x00, 0x30] (y := 0x80)) [0x3000] =
      some (⟨0x00, 0x00, 0x80, 0xFF, 0x0203, 0x24, 4⟩, [0x80]) := by
  decide +kernel

theorem test_tax :
    view (start [0xAA] (a := 0x80)) [] =
      some (⟨0x80, 0x80, 0x00, 0xFF, 0x0201, 0xA4, 2⟩, []) := by
  decide +kernel

theorem test_tay :
    view (start [0xA8] (y := 0x12)) [] =
      some (⟨0x00, 0x00, 0x00, 0xFF, 0x0201, 0x26, 2⟩, []) := by
  decide +kernel

theorem test_txa :
    view (start [0x8A] (a := 0xFF) (x := 0x01)) [] =
      some (⟨0x01, 0x01, 0x00, 0xFF, 0x0201, 0x24, 2⟩, []) := by
  decide +kernel

theorem test_tya :
    view (start [0x98] (y := 0xC0)) [] =
      some (⟨0xC0, 0x00, 0xC0, 0xFF, 0x0201, 0xA4, 2⟩, []) := by
  decide +kernel

theorem test_tsx :
    view (start [0xBA] (sp := 0xF0)) [] =
      some (⟨0x00, 0xF0, 0x00, 0xF0, 0x0201, 0xA4, 2⟩, []) := by
  decide +kernel

theorem test_txs :
    view (start [0x9A]) [] =
      some (⟨0x00, 0x00, 0x00, 0x00, 0x0201, 0x24, 2⟩, []) := by
  decide +kernel

theorem test_pha :
    [ view (start [0x48] (a := 0x5A)) [0x01FF],
      view (start [0x48] (a := 0x5A) (sp := 0x00)) [0x0100] ] =
    [ some (⟨0x5A, 0x00, 0x00, 0xFE, 0x0201, 0x24, 3⟩, [0x5A]),
      some (⟨0x5A, 0x00, 0x00, 0xFF, 0x0201, 0x24, 3⟩, [0x5A]) ] := by
  decide +kernel

theorem test_php :
    [ view (start [0x08]) [0x01FF],
      view (start [0x08] (p := 0xEF)) [0x01FF] ] =
    [ some (⟨0x00, 0x00, 0x00, 0xFE, 0x0201, 0x24, 3⟩, [0x34]),
      some (⟨0x00, 0x00, 0x00, 0xFE, 0x0201, 0xEF, 3⟩, [0xFF]) ] := by
  decide +kernel

theorem test_pla :
    [ view (start [0x68] (a := 0x33) (sp := 0xFE) (cells := [(0x01FF, 0x00)])) [],
      view (start [0x68] (cells := [(0x0100, 0x90)])) [] ] =
    [ some (⟨0x00, 0x00, 0x00, 0xFF, 0x0201, 0x26, 4⟩, []),
      some (⟨0x90, 0x00, 0x00, 0x00, 0x0201, 0xA4, 4⟩, []) ] := by
  decide +kernel

theorem test_plp :
    [ view (start [0x28] (sp := 0xFE) (cells := [(0x01FF, 0xFF)])) [],
      view (start [0x28] (sp := 0xFE) (cells := [(0x01FF, 0x00)])) [] ] =
    [ some (⟨0x00, 0x00, 0x00, 0xFF, 0x0201, 0xEF, 4⟩, []),
      some (⟨0x00, 0x00, 0x00, 0xFF, 0x0201, 0x20, 4⟩, []) ] := by
  decide +kernel

theorem test_adc_binary :
    [ view (start [0x69, 0x01] (a := 0x7F)) [],
      view (start [0x69, 0x00] (a := 0xFF) (p := 0x25)) [],
      view (start [0x69, 0x80] (a := 0x80)) [],
      view (start [0x69, 0x50] (a := 0x50)) [] ] =
    [ some (⟨0x80, 0x00, 0x00, 0xFF, 0x0202, 0xE4, 2⟩, []),
      some (⟨0x00, 0x00, 0x00, 0xFF, 0x0202, 0x27, 2⟩, []),
      some (⟨0x00, 0x00, 0x00, 0xFF, 0x0202, 0x67, 2⟩, []),
      some (⟨0xA0, 0x00, 0x00, 0xFF, 0x0202, 0xE4, 2⟩, []) ] := by
  decide +kernel

theorem test_adc_decimal :
    [ view (start [0x69, 0x46] (a := 0x58) (p := 0x2D)) [],
      view (start [0x69, 0x01] (a := 0x99) (p := 0x2C)) [],
      view (start [0x69, 0x12] (a := 0x34) (p := 0x2C)) [],
      view (start [0x69, 0x0F] (a := 0x0F) (p := 0x2C)) [] ] =
    [ some (⟨0x05, 0x00, 0x00, 0xFF, 0x0202, 0xED, 2⟩, []),
      some (⟨0x00, 0x00, 0x00, 0xFF, 0x0202, 0xAD, 2⟩, []),
      some (⟨0x46, 0x00, 0x00, 0xFF, 0x0202, 0x2C, 2⟩, []),
      some (⟨0x14, 0x00, 0x00, 0xFF, 0x0202, 0x2C, 2⟩, []) ] := by
  decide +kernel

theorem test_sbc_binary :
    [ view (start [0xE9, 0x01] (p := 0x25)) [],
      view (start [0xE9, 0x01] (a := 0x80) (p := 0x25)) [],
      view (start [0xE9, 0x05] (a := 0x05)) [] ] =
    [ some (⟨0xFF, 0x00, 0x00, 0xFF, 0x0202, 0xA4, 2⟩, []),
      some (⟨0x7F, 0x00, 0x00, 0xFF, 0x0202, 0x65, 2⟩, []),
      some (⟨0xFF, 0x00, 0x00, 0xFF, 0x0202, 0xA4, 2⟩, []) ] := by
  decide +kernel

theorem test_sbc_decimal :
    [ view (start [0xE9, 0x01] (p := 0x2D)) [],
      view (start [0xE9, 0x12] (a := 0x46) (p := 0x2D)) [],
      view (start [0xE9, 0x34] (a := 0x12) (p := 0x2D)) [] ] =
    [ some (⟨0x99, 0x00, 0x00, 0xFF, 0x0202, 0xAC, 2⟩, []),
      some (⟨0x34, 0x00, 0x00, 0xFF, 0x0202, 0x2D, 2⟩, []),
      some (⟨0x78, 0x00, 0x00, 0xFF, 0x0202, 0xAC, 2⟩, []) ] := by
  decide +kernel

theorem test_cmp :
    [ view (start [0xC9, 0x30] (a := 0x40)) [],
      view (start [0xC9, 0x40] (a := 0x40)) [],
      view (start [0xC9, 0xFF] (a := 0x01)) [] ] =
    [ some (⟨0x40, 0x00, 0x00, 0xFF, 0x0202, 0x25, 2⟩, []),
      some (⟨0x40, 0x00, 0x00, 0xFF, 0x0202, 0x27, 2⟩, []),
      some (⟨0x01, 0x00, 0x00, 0xFF, 0x0202, 0x24, 2⟩, []) ] := by
  decide +kernel

theorem test_cpx :
    view (start [0xE0, 0x05] (x := 0x05)) [] =
      some (⟨0x00, 0x05, 0x00, 0xFF, 0x0202, 0x27, 2⟩, []) := by
  decide +kernel

theorem test_cpy :
    view (start [0xC0, 0x01]) [] =
      some (⟨0x00, 0x00, 0x00, 0xFF, 0x0202, 0xA4, 2⟩, []) := by
  decide +kernel

theorem test_inc :
    [ view (start [0xE6, 0x10] (cells := [(0x0010, 0xFF)])) [0x0010],
      view (start [0xFE, 0xFF, 0x12] (x := 0x01) (cells := [(0x1300, 0x7F)])) [0x1300] ] =
    [ some (⟨0x00, 0x00, 0x00, 0xFF, 0x0202, 0x26, 5⟩, [0x00]),
      some (⟨0x00, 0x01, 0x00, 0xFF, 0x0203, 0xA4, 7⟩, [0x80]) ] := by
  decide +kernel

theorem test_dec :
    view (start [0xCE, 0x34, 0x12] (cells := [(0x1234, 0x00)])) [0x1234] =
      some (⟨0x00, 0x00, 0x00, 0xFF, 0x0203, 0xA4, 6⟩, [0xFF]) := by
  decide +kernel

theorem test_inx :
    view (start [0xE8] (x := 0xFF) (p := 0x25)) [] =
      some (⟨0x00, 0x00, 0x00, 0xFF, 0x0201, 0x27, 2⟩, []) := by
  decide +kernel

theorem test_iny :
    view (start [0xC8] (y := 0x7F)) [] =
      some (⟨0x00, 0x00, 0x80, 0xFF, 0x0201, 0xA4, 2⟩, []) := by
  decide +kernel

theorem test_dex :
    view (start [0xCA] (x := 0x01)) [] =
      some (⟨0x00, 0x00, 0x00, 0xFF, 0x0201, 0x26, 2⟩, []) := by
  decide +kernel

theorem test_dey :
    view (start [0x88]) [] =
      some (⟨0x00, 0x00, 0xFF, 0xFF, 0x0201, 0xA4, 2⟩, []) := by
  decide +kernel

theorem test_and :
    view (start [0x29, 0x0F] (a := 0xF0)) [] =
      some (⟨0x00, 0x00, 0x00, 0xFF, 0x0202, 0x26, 2⟩, []) := by
  decide +kernel

theorem test_ora :
    view (start [0x09, 0x80] (a := 0x01)) [] =
      some (⟨0x81, 0x00, 0x00, 0xFF, 0x0202, 0xA4, 2⟩, []) := by
  decide +kernel

theorem test_eor :
    view (start [0x49, 0xFF] (a := 0xFF)) [] =
      some (⟨0x00, 0x00, 0x00, 0xFF, 0x0202, 0x26, 2⟩, []) := by
  decide +kernel

theorem test_bit :
    [ view (start [0x24, 0x10] (a := 0x01) (cells := [(0x0010, 0xC0)])) [],
      view (start [0x2C, 0x00, 0x20] (a := 0xFF) (p := 0xE4) (cells := [(0x2000, 0x01)])) [] ] =
    [ some (⟨0x01, 0x00, 0x00, 0xFF, 0x0202, 0xE6, 3⟩, []),
      some (⟨0xFF, 0x00, 0x00, 0xFF, 0x0203, 0x24, 4⟩, []) ] := by
  decide +kernel

theorem test_asl :
    [ view (start [0x0A] (a := 0x81)) [],
      view (start [0x06, 0x10] (cells := [(0x0010, 0x40)])) [0x0010] ] =
    [ some (⟨0x02, 0x00, 0x00, 0xFF, 0x0201, 0x25, 2⟩, []),
      some (⟨0x00, 0x00, 0x00, 0xFF, 0x0202, 0xA4, 5⟩, [0x80]) ] := by
  decide +kernel

theorem test_lsr :
    [ view (start [0x4A] (a := 0x01)) [],
      view (start [0x5E, 0x00, 0x20] (x := 0x01) (cells := [(0x2001, 0xFE)])) [0x2001] ] =
    [ some (⟨0x00, 0x00, 0x00, 0xFF, 0x0201, 0x27, 2⟩, []),
      some (⟨0x00, 0x01, 0x00, 0xFF, 0x0203, 0x24, 7⟩, [0x7F]) ] := by
  decide +kernel

theorem test_rol :
    [ view (start [0x2A] (a := 0x80) (p := 0x25)) [],
      view (start [0x26, 0x10] (cells := [(0x0010, 0x40)])) [0x0010] ] =
    [ some (⟨0x01, 0x00, 0x00, 0xFF, 0x0201, 0x25, 2⟩, []),
      some (⟨0x00, 0x00, 0x00, 0xFF, 0x0202, 0xA4, 5⟩, [0x80]) ] := by
  decide +kernel

theorem test_ror :
    [ view (start [0x6A] (a := 0x01) (p := 0x25)) [],
      view (start [0x6A] (a := 0x01)) [],
      view (start [0x76, 0x0F] (x := 0x01) (p := 0x25) (cells := [(0x0010, 0x02)])) [0x0010] ] =
    [ some (⟨0x80, 0x00, 0x00, 0xFF, 0x0201, 0xA5, 2⟩, []),
      some (⟨0x00, 0x00, 0x00, 0xFF, 0x0201, 0x27, 2⟩, []),
      some (⟨0x00, 0x01, 0x00, 0xFF, 0x0202, 0xA4, 6⟩, [0x81]) ] := by
  decide +kernel

theorem test_bpl :
    view (start [0x10, 0x05]) [] =
      some (⟨0x00, 0x00, 0x00, 0xFF, 0x0207, 0x24, 3⟩, []) := by
  decide +kernel

theorem test_bmi :
    view (start [0x30, 0x05]) [] =
      some (⟨0x00, 0x00, 0x00, 0xFF, 0x0202, 0x24, 2⟩, []) := by
  decide +kernel

theorem test_bvc :
    view (start [0x50, 0xFE]) [] =
      some (⟨0x00, 0x00, 0x00, 0xFF, 0x0200, 0x24, 3⟩, []) := by
  decide +kernel

theorem test_bvs :
    view (start [0x70, 0x10] (p := 0x64)) [] =
      some (⟨0x00, 0x00, 0x00, 0xFF, 0x0212, 0x64, 3⟩, []) := by
  decide +kernel

theorem test_bcc :
    view (start [0x90, 0x01] (pc := 0x02FD)) [] =
      some (⟨0x00, 0x00, 0x00, 0xFF, 0x0300, 0x24, 4⟩, []) := by
  decide +kernel

theorem test_bcs :
    view (start [0xB0, 0xFC] (pc := 0x0300) (p := 0x25)) [] =
      some (⟨0x00, 0x00, 0x00, 0xFF, 0x02FE, 0x25, 4⟩, []) := by
  decide +kernel

theorem test_bne :
    view (start [0xD0, 0xF9] (pc := 0x0205)) [] =
      some (⟨0x00, 0x00, 0x00, 0xFF, 0x0200, 0x24, 3⟩, []) := by
  decide +kernel

theorem test_beq :
    [ view (start [0xF0, 0x00] (p := 0x26)) [],
      view (start [0xF0, 0x80] (pc := 0x0280) (p := 0x26)) [] ] =
    [ some (⟨0x00, 0x00, 0x00, 0xFF, 0x0202, 0x26, 3⟩, []),
      some (⟨0x00, 0x00, 0x00, 0xFF, 0x0202, 0x26, 3⟩, []) ] := by
  decide +kernel

theorem test_jmp :
    [ view (start [0x6C, 0xFF, 0x02] (pc := 0x0500) (cells := [(0x0200, 0x04), (0x02FF, 0x00), (0x0300, 0x05)])) [],
      view (start [0x6C, 0x00, 0x03] (pc := 0x0500) (cells := [(0x0300, 0x34), (0x0301, 0x12)])) [],
      view (start [0x4C, 0x00, 0x04]) [] ] =
    [ some (⟨0x00, 0x00, 0x00, 0xFF, 0x0400, 0x24, 5⟩, []),
      some (⟨0x00, 0x00, 0x00, 0xFF, 0x1234, 0x24, 5⟩, []),
      some (⟨0x00, 0x00, 0x00, 0xFF, 0x0400, 0x24, 3⟩, []) ] := by
  decide +kernel

theorem test_jsr :
    [ view (start [0x20, 0x00, 0x03]) [0x01FF, 0x01FE],
      view (start [0x20, 0x00, 0x03] (sp := 0x00)) [0x0100, 0x01FF] ] =
    [ some (⟨0x00, 0x00, 0x00, 0xFD, 0x0300, 0x24, 6⟩, [0x02, 0x02]),
      some (⟨0x00, 0x00, 0x00, 0xFE, 0x0300, 0x24, 6⟩, [0x02, 0x02]) ] := by
  decide +kernel

theorem test_rts :
    [ view (start [0x60] (sp := 0xFD) (cells := [(0x01FE, 0x02), (0x01FF, 0x02)])) [],
      view (start [0x60] (sp := 0xFD) (cells := [(0x01FE, 0xFF), (0x01FF, 0xFF)])) [] ] =
    [ some (⟨0x00, 0x00, 0x00, 0xFF, 0x0203, 0x24, 6⟩, []),
      some (⟨0x00, 0x00, 0x00, 0xFF, 0x0000, 0x24, 6⟩, []) ] := by
  decide +kernel

theorem test_brk :
    [ view (start [0x00] (cells := [(0xFFFE, 0x00), (0xFFFF, 0x04)])) [0x01FF, 0x01FE, 0x01FD],
      view (start [0x00] (p := 0x29) (cells := [(0xFFFE, 0x00), (0xFFFF, 0x04)])) [0x01FD] ] =
    [ some (⟨0x00, 0x00, 0x00, 0xFC, 0x0400, 0x24, 7⟩, [0x02, 0x02, 0x34]),
      some (⟨0x00, 0x00, 0x00, 0xFC, 0x0400, 0x2D, 7⟩, [0x39]) ] := by
  decide +kernel

theorem test_rti :
    [ view (start [0x40] (sp := 0xFC) (cells := [(0x01FD, 0x34), (0x01FE, 0x02), (0x01FF, 0x02)])) [],
      view (start [0x40] (sp := 0xFC) (cells := [(0x01FD, 0xFF), (0x01FE, 0x00), (0x01FF, 0x30)])) [] ] =
    [ some (⟨0x00, 0x00, 0x00, 0xFF, 0x0202, 0x24, 6⟩, []),
      some (⟨0x00, 0x00, 0x00, 0xFF, 0x3000, 0xEF, 6⟩, []) ] := by
  decide +kernel

theorem test_clc :
    view (start [0x18] (p := 0xEF)) [] =
      some (⟨0x00, 0x00, 0x00, 0xFF, 0x0201, 0xEE, 2⟩, []) := by
  decide +kernel

theorem test_sec :
    view (start [0x38]) [] =
      some (⟨0x00, 0x00, 0x00, 0xFF, 0x0201, 0x25, 2⟩, []) := by
  decide +kernel

theorem test_cli :
    view (start [0x58]) [] =
      some (⟨0x00, 0x00, 0x00, 0xFF, 0x0201, 0x20, 2⟩, []) := by
  decide +kernel

theorem test_sei :
    view (start [0x78] (p := 0x20)) [] =
      some (⟨0x00, 0x00, 0x00, 0xFF, 0x0201, 0x24, 2⟩, []) := by
  decide +kernel

theorem test_clv :
    view (start [0xB8] (p := 0x60)) [] =
      some (⟨0x00, 0x00, 0x00, 0xFF, 0x0201, 0x20, 2⟩, []) := by
  decide +kernel

theorem test_cld :
    view (start [0xD8] (p := 0x2C)) [] =
      some (⟨0x00, 0x00, 0x00, 0xFF, 0x0201, 0x24, 2⟩, []) := by
  decide +kernel

theorem test_sed :
    view (start [0xF8]) [] =
      some (⟨0x00, 0x00, 0x00, 0xFF, 0x0201, 0x2C, 2⟩, []) := by
  decide +kernel

theorem test_nop :
    view (start [0xEA] (a := 0x12) (p := 0xE7)) [] =
      some (⟨0x12, 0x00, 0x00, 0xFF, 0x0201, 0xE7, 2⟩, []) := by
  decide +kernel

/-! ### Illegal opcodes (95_test_vectors.md 2.9; 60_exceptions.md R300, R301) -/

/-- What the host sees of one call of `step()`. -/
def halts (op : Byte) : Bool :=
  let s := start [op, 0x01] (a := 0x12)
  let f : Fault := .illegalInstruction 0x0200 op
  let r := hostStep s
  decide (r = { steps := 0, fault := some f, refusal := none, state := { s with mode := .halted f } }) &&
    decide ((hostStep r.state).refusal = some .halted)

theorem test_illegal_opcodes_halt : ([0x02, 0xFF, 0x1A, 0x80] : List Byte).all halts = true := by decide +kernel

theorem test_illegal_opcode_count : illegalOpcodes.length = 105 ∧ illegalOpcodes.Nodup := by decide +kernel

/-! ### Reset and the host (95_test_vectors.md 2.1) -/

/-- The memory of RS1: the reset vector points to 0x0200. -/
def vectored (mode : Mode) : State :=
  { start [0x00, 0x02] (pc := 0xFFFC) (a := 0xFF) (p := 0x00) with mode := mode }

theorem test_rs1_reset :
    (vectored .unreset).resetOp {} = { vectored .running with a := 0x00, p := 0x24, pc := 0x0200, cyc := 7 } := by
  decide +kernel

theorem test_rs2_fixed : ((vectored .unreset).resetOp { resetPcSource := .fixed 0x8000 }).pc = 0x8000 := by
  decide +kernel

theorem test_rs3_rs4_status :
    ((vectored .unreset).resetOp { resetP := 0xFF }).p = 0xEF ∧
      ((vectored .unreset).resetOp { resetP := 0x00 }).p = 0x20 := by
  decide +kernel

theorem test_rs5_from_halted :
    (vectored (.halted (.illegalInstruction 0x0202 0x02))).resetOp {} = (vectored .unreset).resetOp {} := by
  decide +kernel

theorem test_rs6_first_step :
    view State.reset [0x01FF, 0x01FE, 0x01FD] =
      some (⟨0x00, 0x00, 0x00, 0xFC, 0x0000, 0x24, 14⟩, [0x00, 0x02, 0x34]) := by
  decide +kernel

theorem test_en1_en2_refused :
    step (vectored .unreset) = .refused .unreset ∧
      step (vectored (.halted (.illegalInstruction 0x0202 0x02))) = .refused .halted :=
  ⟨rfl, rfl⟩

theorem test_en3_run :
    let s := { start [0xEA, 0xEA, 0x02] with cyc := 7 }
    let f : Fault := .illegalInstruction 0x0202 0x02
    runHost 3 s = { steps := 2, fault := some f, refusal := none,
                    state := { s with pc := 0x0202, cyc := 11, mode := .halted f } } := by
  decide +kernel

/-- The model's choice for calls outside Running (log entry 11): no step, and a refusal only where a step is called. -/
theorem test_run_outside_running :
    let s := vectored .unreset
    runHost 0 s = { steps := 0, fault := none, refusal := none, state := s } ∧
      runHost 2 s = { steps := 0, fault := none, refusal := some .unreset, state := s } := by
  decide +kernel

theorem test_hi1_short_image : (start [0xEA]).hostLoad [0x00, 0x01] = .error (.imageSizeMismatch 2) := by decide +kernel

/-- A table word placed at reset is what the next step runs: LDA #$42, with its operand byte in bits 15..8. -/
theorem test_withFetchWord :
    view (State.reset.withFetchWord 16 0x42A9) [0x0000, 0x0001] =
      some (⟨0x42, 0x00, 0x00, 0xFF, 0x0002, 0x24, 9⟩, [0xA9, 0x42]) := by
  decide +kernel

/-! ### Witnesses: states and operands that meet the hypotheses of the statements -/

/-- The invariant, in Running: Stores, Pushes, PHP and PLP, INC and DEC, shifts, JSR, RTS after JSR, BRK, RTI after BRK, store
then load, and the steps that keep it. -/
theorem witness_inv : (start [0x20, 0x00, 0x03]).Inv ∧ (start [0x20, 0x00, 0x03]).mode = .running :=
  ⟨⟨by decide +kernel, by decide +kernel, by decide +kernel⟩, by decide +kernel⟩

/-- The invariant where a stack push wraps and the instruction itself lies on the stack. -/
theorem witness_inv_on_stack : (start [0x20, 0x00, 0x03] (pc := 0x01FE) (sp := 0x00)).Inv :=
  ⟨by decide +kernel, by decide +kernel, by decide +kernel⟩

theorem witness_EncodeInvertsDecode : decode [0xA9, 0x42, 0xEA] = .ok (.ldaImm 0x42, [0xEA]) := by decide +kernel

theorem witness_LengthAndForm :
    decode [0xBD, 0xFF, 0xFF] = .ok (.ldaAbsX 0xFFFF, []) ∧ decode [0xBD, 0x00, 0x00, 0x01] = .ok (.ldaAbsX 0x0000, [0x01]) := by
  decide +kernel

theorem witness_StepRuns :
    let s := start [0xA9, 0x42] (pc := 0xFFFF)
    s.mode = .running ∧
      decode [s.read s.pc, s.read (s.pc + 1), s.read (s.pc + 2)] = .ok (.ldaImm 0x42, [0x00]) := by
  decide +kernel

theorem witness_EncodedBytesAtPcRun :
    let s := start [0xBD, 0x34, 0x12] (pc := 0xFFFE)
    s.mode = .running ∧ encode (.ldaAbsX 0x1234) = [s.read s.pc, s.read (s.pc + 1), s.read (s.pc + 2)] := by
  decide +kernel

theorem witness_modes :
    (vectored .unreset).mode = .unreset ∧ (vectored .running).mode = .running ∧
      (vectored (.halted (.illegalInstruction 0x0202 0x02))).mode = .halted (.illegalInstruction 0x0202 0x02) := by
  decide +kernel

/-- Both sides of legal and illegal opcodes: 0x00 is BRK, 0x01 is ORA, 0x02 the first illegal one. -/
theorem witness_illegal :
    (start [0x02]).mode = .running ∧ (start [0x02]).read (start [0x02]).pc ∈ illegalOpcodes ∧
      (start [0x01]).read (start [0x01]).pc ∉ illegalOpcodes ∧ (start [0x00]).read (start [0x00]).pc ∉ illegalOpcodes := by
  decide +kernel

theorem witness_StepKeepsInvariant : (start [0x08]).Inv ∧ ∃ t, step (start [0x08]) = .next t :=
  ⟨⟨by decide +kernel, by decide +kernel, by decide +kernel⟩, _, rfl⟩

theorem witness_ResetMeetsInvariant : (vectored .unreset).mem.wf = true := by decide +kernel

theorem witness_PcMoves :
    (Instr.ldaImm 0x42).form.mnemonic ∉ controlTransfers ∧ ∃ t, exec (.ldaImm 0x42) (start [] (pc := 0xFFFF)) = .next t :=
  ⟨by decide +kernel, _, rfl⟩

theorem witness_FlagsWritten :
    (start []).Inv ∧ (Instr.plp).form.mnemonic ∉ flagWriters .b ∧ (Instr.inx).form.mnemonic ∉ flagWriters .c ∧
      (∃ t, exec .plp (start []) = .next t) ∧ ∃ t, exec .inx (start []) = .next t :=
  ⟨⟨by decide +kernel, by decide +kernel, by decide +kernel⟩, by decide +kernel, by decide +kernel, ⟨_, rfl⟩, _, rfl⟩

theorem witness_RegistersWritten :
    writesReg .a (Instr.aslZp 0x10).form = false ∧ writesReg .x Instr.txs.form = false ∧
      (∃ t, exec (.aslZp 0x10) (start []) = .next t) ∧ ∃ t, exec .txs (start []) = .next t :=
  ⟨by decide +kernel, by decide +kernel, ⟨_, rfl⟩, _, rfl⟩

/-- A store, a push at the bottom of the stack page, and an instruction that stores nothing. -/
theorem witness_MemoryWritten :
    0x1235 ∉ storedAt (.staAbs 0x1234) (start []) ∧ 0x0100 ∉ storedAt .pha (start []) ∧
      0x1234 ∉ storedAt (.ldaAbs 0x1234) (start []) ∧ (∃ t, exec (.staAbs 0x1234) (start []) = .next t) ∧
      (∃ t, exec .pha (start []) = .next t) ∧ ∃ t, exec (.ldaAbs 0x1234) (start []) = .next t :=
  ⟨by decide +kernel, by decide +kernel, by decide +kernel, ⟨_, rfl⟩, ⟨_, rfl⟩, _, rfl⟩

theorem witness_Cyc : ∃ t, exec (.bne 0x80) (start []) = .next t := ⟨_, rfl⟩

theorem witness_FlagsRead :
    (Instr.rolAcc).form.mnemonic ∉ flagReaders .d ∧ (Instr.rti).form.mnemonic ∉ flagReaders .c ∧
      (∃ t, exec .rolAcc (start []) = .next t) ∧ ∃ t, exec .rti (start []) = .next t :=
  ⟨by decide +kernel, by decide +kernel, ⟨_, rfl⟩, _, rfl⟩

/-- A run that ends with its budget and one that a fault ends on its last step. -/
theorem witness_RunStops :
    (start [0xEA, 0x02]).mode = .running ∧ (runHost 1 (start [0xEA, 0x02])).fault = none ∧
      (runHost 2 (start [0xEA, 0x02])).fault = some (.illegalInstruction 0x0201 0x02) := by
  decide +kernel

theorem witness_ResetState : ({ State.reset with a := 0xFF, mode := .unreset } : State).mem = Memory.zeroFilled := rfl

theorem witness_Load :
    (List.replicate 65536 (0xEA : Byte)).length = 65536 ∧ (List.replicate 65535 (0xEA : Byte)).length ≠ 65536 := by
  rw [List.length_replicate, List.length_replicate]
  decide

theorem witness_Dump (image : List Byte) (h : image.length = 65536) :
    ∃ t, (start []).hostLoad image = .ok t :=
  ⟨{ start [] with mem := Memory.ofBytes image }, if_pos h⟩

theorem witness_EqualCells :
    let m : Memory := [(0x0000, 0x01), (0xFFFF, 0x02)]
    m.wf = true ∧ Memory.write (Memory.write m 0x0000 0x00) 0x0000 0x01 = m := by
  decide +kernel

/-- D clear and D set, the latter with valid packed BCD operands at the ends of their range. -/
theorem witness_decimal :
    (start []).flag .d = false ∧ (start [] (a := 0x99) (p := 0x28)).flag .d = true ∧
      IsBcd (start [] (a := 0x99) (p := 0x28)).a ∧ IsBcd 0x00 ∧ ¬ IsBcd 0x9A ∧ ¬ IsBcd 0xA0 := by
  refine ⟨by decide +kernel, by decide +kernel, ?_, ?_, ?_, ?_⟩ <;> unfold IsBcd <;> decide +kernel

/-- The lists of forms that the statements range over have one entry for each opcode of their mnemonics
(30_encoding.md R97). -/
theorem witness_forms :
    ((loadForms 0 0 0).length, (storeForms 0 0).length, (adcForms 0 0 0).length, (sbcForms 0 0 0).length) = (18, 13, 8, 8) ∧
    ((compareForms 0 0 0).length, (incForms 0 0).length, (decForms 0 0).length) = (14, 4, 4) ∧
    ((andForms 0 0 0).length, (oraForms 0 0 0).length, (eorForms 0 0 0).length, (bitForms 0 0).length) = (8, 8, 8, 2) ∧
    ((aslForms 0 0).length, (lsrForms 0 0).length, (rolForms 0 0).length, (rorForms 0 0).length) = (5, 5, 5, 5) ∧
    (branchForms 0).length = 8 := by
  decide +kernel

/-- The resolver's clauses at the ends of their ranges: page-0 wrap, no crossing and crossing, the wrap past 0xFFFF. -/
theorem witness_modes_of_addressing :
    let s := start [] (x := 0x01) (y := 0x01)
    (MemOperand.zpX 0xFF).ea s = 0x0000 ∧ (MemOperand.zpY 0xFF).ea s = 0x0000 ∧
      (MemOperand.absX 0x12FE).resolve s = ⟨0x12FF, false⟩ ∧ (MemOperand.absX 0x12FF).resolve s = ⟨0x1300, true⟩ ∧
      (MemOperand.absY 0xFFFF).resolve s = ⟨0x0000, true⟩ ∧ (MemOperand.indY 0xFF).resolve s = ⟨0x0001, false⟩ := by
  decide +kernel

end Sys2Proof.Tests
end

namespace Sys2Proof.Machine

/-! ### Which flags an instruction writes (10_state.md R39)

R39 lists the writers of each flag. The proof reads the table the other way, the flags of each mnemonic, and bounds the
change of P by that list: first for each computation on the status byte, then for each instruction. -/

/-- The flags whose list of writers names a mnemonic. -/
def flagsWritten (m : Mnemonic) : List Flag :=
  [.n, .v, .one, .b, .d, .i, .z, .c].filter fun f => (flagWriters f).contains m

theorem mem_flagsWritten {m : Mnemonic} {f : Flag} : f ∈ flagsWritten m ↔ m ∈ flagWriters f := by
  have hf : f ∈ [Flag.n, .v, .one, .b, .d, .i, .z, .c] := by cases f <;> decide
  simp only [flagsWritten, List.mem_filter, hf, true_and, List.contains_iff_mem]

/-- The status bytes `p` and `q` agree on every flag outside `fs`. -/
def StatusChangesOnly (fs : List Flag) (p q : Byte) : Prop := ∀ f, f ∉ fs → flagOf q f = flagOf p f

theorem statusChangesOnly_refl (p : Byte) : StatusChangesOnly [] p p := fun _ _ => rfl

theorem statusChangesOnly_putFlag (p : Byte) (g : Flag) (on : Bool) : StatusChangesOnly [g] p (putFlag p g on) := by
  intro f hf
  rw [flagOf_putFlag, if_neg (mt List.mem_singleton.mpr hf)]

theorem statusChangesOnly_setNZ (p v : Byte) : StatusChangesOnly [.n, .z] p (setNZ p v) := by
  intro f hf
  have ⟨hn, hz⟩ : f ≠ .n ∧ f ≠ .z := by simpa using hf
  rw [flagOf_setNZ, if_neg hn, if_neg hz]

/-- Carry, then N and Z from a result: the shape of the compares, the shifts and the rotates. -/
theorem statusChangesOnly_setNZ_carry (p v : Byte) (c : Bool) :
    StatusChangesOnly [.n, .z, .c] p (setNZ (putFlag p .c c) v) := by
  intro f hf
  have ⟨hn, hz, hc⟩ : f ≠ .n ∧ f ≠ .z ∧ f ≠ .c := by simpa using hf
  rw [flagOf_setNZ, if_neg hn, if_neg hz, flagOf_putFlag, if_neg hc]

theorem statusChangesOnly_bitFlags (a m p : Byte) : StatusChangesOnly [.n, .v, .z] p (bitFlags a m p) := by
  intro f hf
  have ⟨hn, hv, hz⟩ : f ≠ .n ∧ f ≠ .v ∧ f ≠ .z := by simpa using hf
  simp [bitFlags, hn, hv, hz]

theorem statusChangesOnly_adc (a m p : Byte) : StatusChangesOnly [.n, .v, .z, .c] p (adc a m p).2 := by
  intro f hf
  have ⟨hn, hv, hz, hc⟩ : f ≠ .n ∧ f ≠ .v ∧ f ≠ .z ∧ f ≠ .c := by simpa using hf
  exact flagOf_adc_other a m p hn hv hz hc

theorem statusChangesOnly_sbc (a m p : Byte) : StatusChangesOnly [.n, .v, .z, .c] p (sbc a m p).2 := by
  intro f hf
  have ⟨hn, hv, hz, hc⟩ : f ≠ .n ∧ f ≠ .v ∧ f ≠ .z ∧ f ≠ .c := by simpa using hf
  exact flagOf_sbc_other a m p hn hv hz hc

/-- A whole-byte write keeps B and bit 5 only because the invariant already holds them at 0 and 1 (R37, R38). -/
theorem State.Inv.statusChangesOnly_storedStatus {s : State} (h : s.Inv) (v : Byte) :
    StatusChangesOnly [.n, .v, .d, .i, .z, .c] s.p (storedStatus v) := by
  intro f hf
  rw [flagOf_storedStatus]
  cases f with
  | one => exact h.oneSet.symm
  | b => exact h.bClear.symm
  | n | v | d | i | z | c => exact absurd hf (by decide)

/-- R39, the table read by instruction. The status after each instruction is, by its shape, one computation on the status
before; the groups below are these computations. -/
theorem exec_statusChangesOnly {i : Instr} {s t : State} (hs : s.Inv) (h : exec i s = .next t) :
    StatusChangesOnly (flagsWritten i.form.mnemonic) s.p t.p := by
  cases i with
  | ldaImm | ldaZp | ldaZpX | ldaAbs | ldaAbsX | ldaAbsY | ldaIndX | ldaIndY
  | ldxImm | ldxZp | ldxZpY | ldxAbs | ldxAbsY | ldyImm | ldyZp | ldyZpX | ldyAbs | ldyAbsX
  | tax | tay | txa | tya | tsx | pla
  | incZp | incZpX | incAbs | incAbsX | decZp | decZpX | decAbs | decAbsX | inx | iny | dex | dey
  | andImm | andZp | andZpX | andAbs | andAbsX | andAbsY | andIndX | andIndY
  | oraImm | oraZp | oraZpX | oraAbs | oraAbsX | oraAbsY | oraIndX | oraIndY
  | eorImm | eorZp | eorZpX | eorAbs | eorAbsX | eorAbsY | eorIndX | eorIndY =>
    cases h; exact statusChangesOnly_setNZ _ _
  | adcImm | adcZp | adcZpX | adcAbs | adcAbsX | adcAbsY | adcIndX | adcIndY =>
    cases h; exact statusChangesOnly_adc _ _ _
  | sbcImm | sbcZp | sbcZpX | sbcAbs | sbcAbsX | sbcAbsY | sbcIndX | sbcIndY =>
    cases h; exact statusChangesOnly_sbc _ _ _
  | cmpImm | cmpZp | cmpZpX | cmpAbs | cmpAbsX | cmpAbsY | cmpIndX | cmpIndY
  | cpxImm | cpxZp | cpxAbs | cpyImm | cpyZp | cpyAbs
  | aslAcc | aslZp | aslZpX | aslAbs | aslAbsX | lsrAcc | lsrZp | lsrZpX | lsrAbs | lsrAbsX
  | rolAcc | rolZp | rolZpX | rolAbs | rolAbsX | rorAcc | rorZp | rorZpX | rorAbs | rorAbsX =>
    cases h; exact statusChangesOnly_setNZ_carry _ _ _
  | bitZp | bitAbs => cases h; exact statusChangesOnly_bitFlags _ _ _
  | plp | rti => cases h; exact hs.statusChangesOnly_storedStatus _
  | clc | sec | cli | sei | clv | cld | sed | brk => cases h; exact statusChangesOnly_putFlag _ _ _
  | staZp | staZpX | staAbs | staAbsX | staAbsY | staIndX | staIndY
  | stxZp | stxZpY | stxAbs | styZp | styZpX | styAbs
  | txs | pha | php | jmpAbs | jmpInd | jsr | rts | nop =>
    cases h; exact statusChangesOnly_refl _
  | bpl | bmi | bvc | bvs | bcc | bcs | bne | beq =>
    cases h; rw [State.branch_frame]; exact statusChangesOnly_refl _

/-- Settles O15: an instruction changes P within the flags it is listed for, so a flag that does not list it is kept. -/
theorem flagsWrittenOnlyByTheirWriters : Obligations.FlagsWrittenOnlyByTheirWriters := by
  intro i s t f hs h hf
  exact exec_statusChangesOnly hs h f (mem_flagsWritten.not.mpr hf)

end Sys2Proof.Machine

namespace Sys2Proof.Machine

/-! ### A store read back by a load (20_memory.md R62) -/

theorem exec_staAbs (w : Addr) (s : State) : exec (.staAbs w) s = .next (s.storeReg .a (.abs w) 4) := rfl

theorem exec_ldaAbs (w : Addr) (s : State) : exec (.ldaAbs w) s = .next (s.loadReg .a (.mem (.abs w)) 4) := rfl

theorem MemOperand.ea_abs (w : Addr) (s : State) : (MemOperand.abs w).ea s = w := rfl

theorem ReadOperand.value_mem (o : MemOperand) (s : State) : (ReadOperand.mem o).value s = s.read (o.ea s) := rfl

/-- What every cell holds after a store. -/
theorem State.read_storeReg {s : State} (h : s.mem.wf = true) (r : Reg) (o : MemOperand) (n : Nat) (b : Addr) :
    (s.storeReg r o n).read b = if b = o.ea s then s.get r else s.read b := by
  have hmem : (s.storeReg r o n).mem = (s.write (o.ea s) (s.get r)).mem := by rw [State.storeReg_spec]
  rw [State.read_congr hmem, State.read_write h]

/-- The register loaded holds the operand's value. -/
theorem State.get_loadReg (s : State) (r : Reg) (o : ReadOperand) (n : Nat) : (s.loadReg r o n).get r = o.value s := by
  rw [State.loadReg_spec]
  cases r <;> rfl

/-- Settles O27: LDA puts in A what its address reads in the state STA left, and there only the stored cell changed. -/
theorem storeThenLoadReadsBack : Obligations.StoreThenLoadReadsBack := by
  intro w w' s hs
  refine ⟨_, _, exec_staAbs w s, exec_ldaAbs w' _, ?_⟩
  rw [← State.get_a, State.get_loadReg, ReadOperand.value_mem, MemOperand.ea_abs, State.read_storeReg hs.memWf,
    MemOperand.ea_abs, State.get_a]

end Sys2Proof.Machine

namespace Sys2Proof

/-! ### The opcode byte decides what an instruction is (30_encoding.md R94, R95)

The operand bytes never change which entry of the grid answers, only the operand it carries. So whether there is an
instruction, and of which form, can be read off with both operand bytes 0. -/

/-- Each entry of the grid R93 has one form, whatever its operand. -/
theorem decodeOpcode_form (op b1 b2 : Byte) :
    (decodeOpcode op b1 b2).map Instr.form = (decodeOpcode op 0 0).map Instr.form := by
  unfold decodeOpcode
  generalize op.toNat / 16 = hi, op.toNat % 16 = lo
  split <;>
    dsimp only [decodeRow0, decodeRow1, decodeRow2, decodeRow3, decodeRow4, decodeRow5, decodeRow6, decodeRow7,
      decodeRow8, decodeRow9, decodeRowA, decodeRowB, decodeRowC, decodeRowD, decodeRowE, decodeRowF]
  all_goals split <;> rfl

/-- The empty entries of the grid R93 are the list R95: each listed value is looked up in the grid, and each value with
an empty entry in the list. -/
theorem decodeOpcode_zero_isNone_iff (op : Byte) :
    (decodeOpcode op 0 0).isNone = true ↔ op ∈ Machine.illegalOpcodes := by
  have hlisted : (Machine.illegalOpcodes.all fun o => (decodeOpcode o 0 0).isNone) = true := by decide
  have hempty : ∀ o : Byte, (decodeOpcode o 0 0).isNone = true → o ∈ Machine.illegalOpcodes := by decide
  exact ⟨hempty op, List.all_eq_true.mp hlisted op⟩

/-- R95: the listed opcode values have no instruction, whatever bytes follow, and every other value has one. -/
theorem decodeOpcode_eq_none_iff (op b1 b2 : Byte) :
    decodeOpcode op b1 b2 = none ↔ op ∈ Machine.illegalOpcodes := by
  rw [← decodeOpcode_zero_isNone_iff, ← Option.isNone_map (f := Instr.form), ← decodeOpcode_form op b1 b2,
    Option.isNone_map, Option.isNone_iff_eq_none]

/-- R94: two instructions with one opcode byte have one form. -/
theorem form_eq_of_decodeOpcode {op b1 b2 c1 c2 : Byte} {i j : Instr} (hi : decodeOpcode op b1 b2 = some i)
    (hj : decodeOpcode op c1 c2 = some j) : i.form = j.form := by
  have h := (decodeOpcode_form op b1 b2).trans (decodeOpcode_form op c1 c2).symm
  rw [hi, hj] at h
  exact Option.some.inj h

/-! ### What `decode` answers -/

/-- `decode` on an opcode byte without an entry in the grid. -/
theorem decode_of_decodeOpcode_none {op : Byte} {rest : List Byte}
    (h : decodeOpcode op (rest.getD 0 0) (rest.getD 1 0) = none) :
    decode (op :: rest) = .error (.illegalOpcode op) := by
  rw [decode, h]

/-- `decode` on an opcode byte with an entry in the grid. -/
theorem decode_of_decodeOpcode_some {op : Byte} {rest : List Byte} {i : Instr}
    (h : decodeOpcode op (rest.getD 0 0) (rest.getD 1 0) = some i) :
    decode (op :: rest) =
      if rest.length + 1 < i.length then .error (.truncated op) else .ok (i, rest.drop (i.length - 1)) := by
  rw [decode, h]

/-- Too few operand bytes is another error, so an illegal opcode is one without an entry in the grid. -/
theorem decode_eq_illegalOpcode_iff (op : Byte) (rest : List Byte) :
    decode (op :: rest) = .error (.illegalOpcode op) ↔ decodeOpcode op (rest.getD 0 0) (rest.getD 1 0) = none := by
  refine ⟨fun hdec => ?_, decode_of_decodeOpcode_none⟩
  cases h : decodeOpcode op (rest.getD 0 0) (rest.getD 1 0) with
  | none => rfl
  | some i =>
    rw [decode_of_decodeOpcode_some h] at hdec
    split at hdec <;> cases hdec

/-- An instruction read from a list of bytes is its opcode's entry, with its bytes there and what follows them left. -/
theorem decode_ok {op : Byte} {rest rest' : List Byte} {i : Instr} (hdec : decode (op :: rest) = .ok (i, rest')) :
    decodeOpcode op (rest.getD 0 0) (rest.getD 1 0) = some i ∧ i.length ≤ rest.length + 1 ∧
      rest.drop (i.length - 1) = rest' := by
  cases h : decodeOpcode op (rest.getD 0 0) (rest.getD 1 0) with
  | none => rw [decode_of_decodeOpcode_none h] at hdec; cases hdec
  | some j =>
    rw [decode_of_decodeOpcode_some h] at hdec
    split at hdec
    · cases hdec
    · next hlen => cases hdec; exact ⟨rfl, not_lt.mp hlen, rfl⟩

/-- R91, R94: every mode has 1, 2 or 3 bytes. -/
theorem AddrMode.length_bounds (m : AddrMode) : 1 ≤ m.length ∧ m.length ≤ 3 := by
  cases m <;> decide

end Sys2Proof

namespace Sys2Proof.Machine

/-- Settles O3: decoding answers illegal exactly where the grid is empty, which the opcode byte alone decides. -/
theorem illegalOpcodesAreExactlyTheListed : Obligations.IllegalOpcodesAreExactlyTheListed := by
  refine ⟨rfl, fun op rest => ?_⟩
  rw [decode_eq_illegalOpcode_iff, decodeOpcode_eq_none_iff]

/-- Settles O4: the opcode byte fixes the form, and the length is the mode's. -/
theorem lengthAndFormFromOpcodeAlone : Obligations.LengthAndFormFromOpcodeAlone := by
  intro op r r' q q' i j hi hj
  obtain ⟨hdi, hlen, hrest⟩ := decode_ok hi
  obtain ⟨hdj, -, -⟩ := decode_ok hj
  have hform : i.form = j.form := form_eq_of_decodeOpcode hdi hdj
  obtain ⟨hpos, hle⟩ : 1 ≤ i.length ∧ i.length ≤ 3 := i.form.mode.length_bounds
  refine ⟨hform, congrArg (fun f => f.mode.length) hform, hpos, hle, ?_, hlen⟩
  rw [← hrest, List.drop_cons hpos]

end Sys2Proof.Machine

namespace Sys2Proof.Machine

/-! ### What an instruction costs (41_execution_engine.md R153)

Of the two extras, the page penalty falls on read-class instructions in the modes that can cross a page, and the branch
extra on branches. Every other instruction costs its base count in every state. -/

/-- The charge of R153, for one instruction in one state. -/
def CompletesAndCharges (i : Instr) (s : State) : Prop :=
  ∃ t, exec i s = .next t ∧ t.cyc = s.cyc + i.baseCycles + pagePenalty i s + branchExtra i s

/-- An absolute operand stands in the instruction low byte first (30_encoding.md R99). -/
theorem memOperandOf_absX {i : Instr} {w : Addr} (hmode : i.form.mode = .absX) (hbytes : i.operandBytes = wordBytes w) :
    memOperandOf i = some (.absX w) := by
  simp [memOperandOf, hmode, hbytes, wordBytes, addrOf_bytes]

theorem memOperandOf_absY {i : Instr} {w : Addr} (hmode : i.form.mode = .absY) (hbytes : i.operandBytes = wordBytes w) :
    memOperandOf i = some (.absY w) := by
  simp [memOperandOf, hmode, hbytes, wordBytes, addrOf_bytes]

theorem pagePenalty_of_crossing_mode {i : Instr} {o : MemOperand} (s : State)
    (hclass : readClass.contains i.form.mnemonic = true)
    (hmode : [AddrMode.absX, .absY, .indY].contains i.form.mode = true) (hop : memOperandOf i = some o) :
    pagePenalty i s = (o.crossed s).toNat := by
  simp only [pagePenalty, hclass, hmode, hop, Bool.and_self, if_true]

theorem branchExtra_of_condition {i : Instr} {s : State} {cond : Bool} {off : Byte}
    (hcond : branchCondition i.form.mnemonic s = some cond) (hoff : i.operandBytes = [off]) :
    branchExtra i s = if cond then 1 + (pageCrossed (s.pc + 2) (s.pc + 2 + sext off)).toNat else 0 := by
  unfold branchExtra
  rw [hcond, hoff]
  cases cond <;> rfl

theorem State.branch_cyc (s : State) (cond : Bool) (off : Byte) (n : Nat) :
    (s.branch cond off n).cyc =
      s.cyc + n + if cond then 1 + (pageCrossed (s.pc + 2) (s.pc + 2 + sext off)).toNat else 0 := by
  cases cond with
  | false => rfl
  | true => simp [State.branch_taken, Nat.add_assoc]

theorem State.enterTrap_cyc (s : State) (ret : Addr) (n : Nat) : (s.enterTrap ret n).cyc = s.cyc + n := by
  rw [State.enterTrap_frame]

theorem completesAndCharges_of_no_extra {i : Instr} {s t : State} (hexec : exec i s = .next t)
    (hcyc : t.cyc = s.cyc + i.baseCycles) (hpage : pagePenalty i s = 0) (hbranch : branchExtra i s = 0) :
    CompletesAndCharges i s := by
  refine ⟨t, hexec, ?_⟩
  rw [hcyc, hpage, hbranch, Nat.add_zero]

theorem completesAndCharges_of_crossing_mode {i : Instr} {s t : State} {o : MemOperand} (hexec : exec i s = .next t)
    (hclass : readClass.contains i.form.mnemonic = true)
    (hmode : [AddrMode.absX, .absY, .indY].contains i.form.mode = true) (hop : memOperandOf i = some o)
    (hbranch : branchExtra i s = 0) (hcyc : t.cyc = s.cyc + (i.baseCycles + (o.crossed s).toNat)) :
    CompletesAndCharges i s := by
  refine ⟨t, hexec, ?_⟩
  rw [pagePenalty_of_crossing_mode s hclass hmode hop, hbranch, hcyc, Nat.add_zero, Nat.add_assoc]

theorem completesAndCharges_of_branch {i : Instr} {s : State} {cond : Bool} {off : Byte}
    (hexec : exec i s = .next (s.branch cond off i.baseCycles)) (hpage : pagePenalty i s = 0)
    (hcond : branchCondition i.form.mnemonic s = some cond) (hoff : i.operandBytes = [off]) :
    CompletesAndCharges i s := by
  refine ⟨_, hexec, ?_⟩
  rw [State.branch_cyc, hpage, branchExtra_of_condition hcond hoff, Nat.add_zero]

/-- R153 by instruction: the forms that can cross a page when they read, the branches, and all the others, whose extras
are both 0 (BRK by its frame, so that the vector it reads is not evaluated). -/
theorem exec_completesAndCharges (i : Instr) (s : State) : CompletesAndCharges i s := by
  cases i with
  | ldaAbsX | ldyAbsX | adcAbsX | sbcAbsX | cmpAbsX | andAbsX | oraAbsX | eorAbsX =>
    exact completesAndCharges_of_crossing_mode rfl rfl rfl (memOperandOf_absX rfl rfl) rfl rfl
  | ldaAbsY | ldxAbsY | adcAbsY | sbcAbsY | cmpAbsY | andAbsY | oraAbsY | eorAbsY =>
    exact completesAndCharges_of_crossing_mode rfl rfl rfl (memOperandOf_absY rfl rfl) rfl rfl
  | ldaIndY | adcIndY | sbcIndY | cmpIndY | andIndY | oraIndY | eorIndY =>
    exact completesAndCharges_of_crossing_mode rfl rfl rfl rfl rfl rfl
  | bpl | bvc | bcc | bne =>
    exact completesAndCharges_of_branch rfl rfl (congrArg some (beq_false _).symm) rfl
  | bmi | bvs | bcs | beq =>
    exact completesAndCharges_of_branch rfl rfl (congrArg some (beq_true _).symm) rfl
  | brk => exact completesAndCharges_of_no_extra rfl (State.enterTrap_cyc s _ 7) rfl rfl
  | _ => exact completesAndCharges_of_no_extra rfl rfl rfl rfl

theorem step_ne_next_of_illegal {s : State} (h : s.read s.pc ∈ illegalOpcodes) (t : State) : step s ≠ .next t := by
  intro hstep
  obtain ⟨-, i, hfetch, -⟩ := step_next hstep
  rw [State.fetch_ok, (decodeOpcode_eq_none_iff _ _ _).mpr h] at hfetch
  cases hfetch

/-! ### What the host sees of a step that does not complete -/

theorem runHost_fault {s : State} {f : Fault} (n : Nat) (h : step s = .fault f) :
    runHost (n + 1) s = ⟨0, some f, none, s.halt f⟩ := by
  simp [runHost, h]

theorem runHost_refused {s : State} {r : Refusal} (n : Nat) (h : step s = .refused r) :
    runHost (n + 1) s = ⟨0, none, some r, s⟩ := by
  simp [runHost, h]

/-- A step that does not complete changes Mode at most, so it charges nothing. -/
theorem hostStep_cyc_of_ne_next {s : State} (h : ∀ t, step s ≠ .next t) : (hostStep s).state.cyc = s.cyc := by
  cases hstep : step s with
  | next t => exact absurd hstep (h t)
  | fault f => rw [hostStep, runHost_fault 0 hstep, State.halt_cyc]
  | refused r => rw [hostStep, runHost_refused 0 hstep]

/-- Settles O13: an instruction costs what R153 says, and a step at an illegal opcode does not complete. -/
theorem everyInstructionCompletesAndChargesItsCycles : Obligations.EveryInstructionCompletesAndChargesItsCycles :=
  ⟨exec_completesAndCharges, fun _ hop => hostStep_cyc_of_ne_next (step_ne_next_of_illegal hop)⟩

/-! ### What a step can do, by Mode (41_execution_engine.md R150) -/

theorem step_unreset {s : State} (h : s.mode = .unreset) : step s = .refused .unreset := by
  simp only [step, h]

theorem step_halted {s : State} {f : Fault} (h : s.mode = .halted f) : step s = .refused .halted := by
  simp only [step, h]

/-- No instruction writes Mode. -/
theorem exec_mode {i : Instr} {s t : State} (h : exec i s = .next t) : t.mode = s.mode := by
  cases i with
  | bpl | bmi | bvc | bvs | bcc | bcs | bne | beq => cases h; rw [State.branch_frame]
  | brk => cases h; rw [State.enterTrap_frame]
  | _ => cases h; rfl

/-- In Running, a step completes, still Running, or faults. -/
theorem step_running_cases {s : State} (h : s.mode = .running) :
    (∃ t, step s = .next t ∧ t.mode = .running) ∨ ∃ f, step s = .fault f := by
  rw [step_running h]
  cases s.fetch with
  | ok i =>
    obtain ⟨t, hexec, -⟩ := exec_completesAndCharges i s
    exact .inl ⟨t, hexec, (exec_mode hexec).trans h⟩
  | error f => exact .inr ⟨f, rfl⟩

/-- Settles O8: Mode alone decides whether a step is refused. -/
theorem stepRefusedExactlyOutsideRunning : Obligations.StepRefusedExactlyOutsideRunning := by
  refine fun s => ⟨step_unreset, fun _ => step_halted, fun hmode r hstep => ?_⟩
  obtain ⟨t, hnext, -⟩ | ⟨f, hfault⟩ := step_running_cases hmode
  · cases hnext.symm.trans hstep
  · cases hfault.symm.trans hstep

/-! ### How a run ends (41_execution_engine.md R157) -/

theorem run_succ_of_next {M : Host.Core} {s t : M.State} (n : Nat) (h : M.step s = .next t) :
    M.run (n + 1) s = M.run n t := by
  rw [Host.Core.run, h]

theorem run_succ_of_fault {M : Host.Core} {s : M.State} {f : M.Fault} (n : Nat) (h : M.step s = .fault f) :
    M.run (n + 1) s = .fault f := by
  rw [Host.Core.run, h]

/-- `run(n)` from `s` came to its budget, in the state of `n` steps. -/
def RunCompletes (n : Nat) (s : State) : Prop :=
  ∃ u, core.run n s = .next u ∧ u.mode = .running ∧ runHost n s = ⟨n, none, none, u⟩

/-- `run(n)` from `s` met a fault at the step after the first `k`. -/
def RunFaults (n : Nat) (s : State) : Prop :=
  ∃ k u f, k < n ∧ core.run k s = .next u ∧ step u = .fault f ∧ core.run n s = .fault f ∧
    runHost n s = ⟨k, some f, none, u.halt f⟩

theorem RunCompletes.cons {n : Nat} {s t : State} (hstep : step s = .next t) (h : RunCompletes n t) :
    RunCompletes (n + 1) s := by
  obtain ⟨u, hrun, hmode, hhost⟩ := h
  refine ⟨u, (run_succ_of_next n hstep).trans hrun, hmode, ?_⟩
  rw [runHost_next hstep, hhost]

theorem RunFaults.cons {n : Nat} {s t : State} (hstep : step s = .next t) (h : RunFaults n t) :
    RunFaults (n + 1) s := by
  obtain ⟨k, u, f, hlt, hk, hfault, hrun, hhost⟩ := h
  refine ⟨k + 1, u, f, Nat.succ_lt_succ hlt, (run_succ_of_next k hstep).trans hk, hfault,
    (run_succ_of_next n hstep).trans hrun, ?_⟩
  rw [runHost_next hstep, hhost]

theorem runFaults_of_step_fault {s : State} {f : Fault} (n : Nat) (h : step s = .fault f) : RunFaults (n + 1) s :=
  ⟨0, s, f, Nat.succ_pos n, rfl, h, run_succ_of_fault n h, runHost_fault n h⟩

/-- From Running there are these two ends, by induction on the budget. -/
theorem runCompletes_or_runFaults (n : Nat) {s : State} (h : s.mode = .running) :
    RunCompletes n s ∨ RunFaults n s := by
  induction n generalizing s with
  | zero => exact .inl ⟨s, rfl, h, rfl⟩
  | succ n ih =>
    obtain ⟨t, hstep, hmode⟩ | ⟨f, hfault⟩ := step_running_cases h
    · exact (ih hmode).imp (RunCompletes.cons hstep) (RunFaults.cons hstep)
    · exact .inr (runFaults_of_step_fault n hfault)

/-- Settles O20: each of the two ends of a run gives the report its clause. -/
theorem runStopsAtBudgetOrFault : Obligations.RunStopsAtBudgetOrFault := by
  intro n s hmode
  obtain ⟨u, hrun, hu, hhost⟩ | ⟨k, u, f, hlt, hk, hfault, hrun, hhost⟩ := runCompletes_or_runFaults n hmode
  · rw [hhost]
    exact ⟨rfl, fun _ => ⟨rfl, hrun, hu⟩, nofun⟩
  · rw [hhost]
    refine ⟨rfl, nofun, fun f' hf => ?_⟩
    cases hf
    exact ⟨hlt, hrun, u, hk, hfault, rfl⟩

end Sys2Proof.Machine

namespace Sys2Proof.Machine

/-! ### Loads, stores and transfers (42_load_store_transfer.md R170 to R181)

Each instruction of the family is one of three shapes, a load, a store or a transfer, or is TXS. The lemmas below say that
exec runs the shape that the list of forms names; the law of the shape says the rest. -/

/-- SetNZ on the status is what `FlagsNZ` says of every flag (10_state.md R40). -/
theorem flagsNZ_of_setNZ {s t : State} {v : Byte} (h : t.p = setNZ s.p v) : FlagsNZ s t v := by
  intro f
  rw [State.flag, h, flagOf_setNZ]
  cases f <;> rfl

/-- R170 to R172: entry by entry, the outcomes of the loads are the list of the `loadReg`s that their forms name. -/
theorem exec_loadForm {v a : Byte} {w : Addr} {f : RegReadForm} (s : State) (hf : f ∈ loadForms v a w) :
    exec f.instr s = .next (s.loadReg f.reg f.operand f.cycles) := by
  have houtcomes : (loadForms v a w).map (fun f => exec f.instr s) =
      (loadForms v a w).map (fun f => .next (s.loadReg f.reg f.operand f.cycles)) := rfl
  exact List.map_inj_left.mp houtcomes f hf

/-- R173 to R175, in the same way. -/
theorem exec_storeForm {a : Byte} {w : Addr} {f : StoreForm} (s : State) (hf : f ∈ storeForms a w) :
    exec f.instr s = .next (s.storeReg f.reg f.operand f.cycles) := by
  have houtcomes : (storeForms a w).map (fun f => exec f.instr s) =
      (storeForms a w).map (fun f => .next (s.storeReg f.reg f.operand f.cycles)) := rfl
  exact List.map_inj_left.mp houtcomes f hf

/-- The status a load leaves. -/
theorem State.loadReg_p (s : State) (r : Reg) (o : ReadOperand) (n : Nat) :
    (s.loadReg r o n).p = Machine.setNZ s.p (o.value s) := by
  rw [State.loadReg_spec]

/-- The status a transfer leaves. -/
theorem State.transfer_p (s : State) (src dst : Reg) (n : Nat) :
    (s.transfer src dst n).p = Machine.setNZ s.p (s.get src) := by
  rw [State.transfer_spec]

/-- What an instruction does whose meaning is a transfer in 2 cycles. -/
theorem copiesAndSetsNZ_of_transfer {i : Instr} {s : State} {src dst : Reg}
    (hexec : exec i s = .next (s.transfer src dst 2)) :
    ∃ t, exec i s = .next t ∧ t = { s.set dst (s.get src) with p := t.p, pc := s.pc + 1, cyc := s.cyc + 2 } ∧
      FlagsNZ s t (s.get src) := by
  refine ⟨_, hexec, ?_, flagsNZ_of_setNZ (State.transfer_p s src dst 2)⟩
  rw [State.transfer_spec]

theorem exec_txs (s : State) : exec .txs s = .next ((s.set .sp s.x).retire 1 2) := rfl

/-- Settles O31: by the law of loads, with the flags of SetNZ. -/
theorem loadsWriteTheirRegister : Obligations.LoadsWriteTheirRegister := by
  intro v a w s f hf
  refine ⟨_, exec_loadForm s hf, ?_, flagsNZ_of_setNZ (State.loadReg_p s f.reg f.operand f.cycles)⟩
  rw [State.loadReg_spec]

/-- Settles O32: by the law of stores; that the stored cell reads back needs the canonical memory of the invariant. -/
theorem storesWriteTheEffectiveAddress : Obligations.StoresWriteTheEffectiveAddress := by
  intro a w s hs f hf
  refine ⟨_, exec_storeForm s hf, ?_, State.read_storeReg hs.memWf f.reg f.operand f.cycles⟩
  rw [State.storeReg_spec]

/-- Settles O33: each of the five has its rule's opcode and runs the transfer between its two registers. -/
theorem transfersCopyAndSetNZ : Obligations.TransfersCopyAndSetNZ := by
  intro s f hf
  simp only [List.mem_cons, List.not_mem_nil, or_false] at hf
  obtain rfl | rfl | rfl | rfl | rfl := hf
  all_goals exact ⟨rfl, copiesAndSetsNZ_of_transfer rfl⟩

/-- Settles O34: TXS moves X to SP and ends the instruction, with no SetNZ between. -/
theorem txsWritesNoFlag : Obligations.TxsWritesNoFlag := by
  intro s
  refine ⟨rfl, ?_⟩
  rw [exec_txs, State.set_sp, State.retire]
  rfl

end Sys2Proof.Machine

namespace Sys2Proof.Machine

/-! ### Pushes and pulls (43_stack.md R200 to R203)

PHA and PHP are one shape, a push of a byte; PLA and PLP both end a pull. The statements write the stack address as the
sum of R65, the model as its two bytes. -/

/-- The stack address as R65 writes it; the sum never leaves page 1. -/
theorem stackAddr_eq_add (sp : Byte) : stackAddr sp = 0x0100 + zext sp := by
  apply BitVec.eq_of_toNat_eq
  have hsp : sp.toNat < 256 := sp.isLt
  have hpage : stackPage.toNat = 1 := rfl
  have hbase : (0x0100 : Addr).toNat = 256 := rfl
  rw [stackAddr, addrOf_toNat, BitVec.toNat_add, zext_toNat, hpage, hbase]
  omega

/-- A status stored whole is what `FlagsPulled` says of every flag (10_state.md R37, R38). -/
theorem flagsPulled_of_storedStatus {t : State} {v : Byte} (h : t.p = storedStatus v) : FlagsPulled t v := by
  intro f
  rw [State.flag, h, flagOf_storedStatus]
  cases f <;> rfl

theorem exec_pha (s : State) : exec .pha s = .next ((s.push s.a).retire 1 3) := rfl

theorem exec_php (s : State) : exec .php s = .next ((s.push (pushedStatus s.p)).retire 1 3) := rfl

theorem exec_pla (s : State) : exec .pla s = .next ((s.pull.2.setResult .a s.pull.1).retire 1 4) := rfl

theorem exec_plp (s : State) : exec .plp s = .next ((s.pull.2.setStatus s.pull.1).retire 1 4) := rfl

/-- What an instruction does whose meaning is to push a byte, in 3 cycles. -/
theorem writesThenDecrements_of_push {i : Instr} {s : State} {v : Byte} (hs : s.Inv)
    (hexec : exec i s = .next ((s.push v).retire 1 3)) :
    ∃ t, exec i s = .next t ∧ t = { s with sp := s.sp - 1, mem := t.mem, pc := s.pc + 1, cyc := s.cyc + 3 } ∧
      ∀ b, t.read b = if b = 0x0100 + zext s.sp then v else s.read b := by
  refine ⟨_, hexec, rfl, fun b => ?_⟩
  rw [State.read_congr (State.retire_mem _ 1 3), State.read_push hs.memWf, stackAddr_eq_add]

/-- Settles O35: PHA pushes A and PHP the status with B and bit 5 set; that the pushed cell reads back needs the
canonical memory of the invariant. -/
theorem pushesWriteThenDecrement : Obligations.PushesWriteThenDecrement := by
  intro s hs f hf
  simp only [List.mem_cons, List.not_mem_nil, or_false] at hf
  obtain rfl | rfl := hf
  · exact ⟨rfl, writesThenDecrements_of_push hs (exec_pha s)⟩
  · exact ⟨rfl, writesThenDecrements_of_push hs (exec_php s)⟩

/-- Settles O36: PLA pulls a byte into A, with the flags of SetNZ. -/
theorem plaIncrementsThenReads : Obligations.PlaIncrementsThenReads := by
  intro s
  refine ⟨rfl, _, exec_pla s, ?_⟩
  rw [State.pull_fst, State.pull_snd, State.setResult_spec, stackAddr_eq_add]
  exact ⟨rfl, flagsNZ_of_setNZ rfl⟩

/-- Settles O37: PLP stores the pulled byte as the whole status. -/
theorem plpDiscardsBAndForcesBitFive : Obligations.PlpDiscardsBAndForcesBitFive := by
  intro s
  refine ⟨rfl, _, exec_plp s, ?_⟩
  rw [State.pull_fst, State.pull_snd, stackAddr_eq_add]
  exact ⟨rfl, flagsPulled_of_storedStatus rfl⟩

end Sys2Proof.Machine

namespace Sys2Proof.Machine

/-! ### Arithmetic, compares, increments and decrements (44_arithmetic.md R210 to R223)

The forms of a family run one shared shape, and the law of the shape says what the instruction does to the state. What is
left is what the byte computations give: the lemmas below state it as arithmetic on the numbers that the bytes stand for,
as the rules do. SBC is reduced to ADC of the complement, so that only one overflow bit has to be read. -/

/-! #### The forms run their shapes -/

theorem exec_adcForm (v a : Byte) (w : Addr) (s : State) :
    ∀ f ∈ adcForms v a w, exec f.instr s = .next (s.accumulate adc f.operand f.cycles) :=
  List.map_inj_left.mp rfl

theorem exec_sbcForm (v a : Byte) (w : Addr) (s : State) :
    ∀ f ∈ sbcForms v a w, exec f.instr s = .next (s.accumulate sbc f.operand f.cycles) :=
  List.map_inj_left.mp rfl

theorem exec_compareForm (v a : Byte) (w : Addr) (s : State) :
    ∀ f ∈ compareForms v a w, exec f.instr s = .next (s.compare f.reg f.operand f.cycles) :=
  List.map_inj_left.mp rfl

theorem exec_incForm (a : Byte) (w : Addr) (s : State) :
    ∀ f ∈ incForms a w, exec f.instr s = .next (s.modify incByte f.operand f.cycles) :=
  List.map_inj_left.mp rfl

theorem exec_decForm (a : Byte) (w : Addr) (s : State) :
    ∀ f ∈ decForms a w, exec f.instr s = .next (s.modify decByte f.operand f.cycles) :=
  List.map_inj_left.mp rfl

/-- The accumulator that an operation on A leaves. -/
theorem State.accumulate_a (s : State) (f : Byte → Byte → Byte → Byte × Byte) (o : ReadOperand) (n : Nat) :
    (s.accumulate f o n).a = (f s.a (o.value s) s.p).1 := by
  rw [State.accumulate_spec]

/-- The status that an operation on A leaves. -/
theorem State.accumulate_p (s : State) (f : Byte → Byte → Byte → Byte × Byte) (o : ReadOperand) (n : Nat) :
    (s.accumulate f o n).p = (f s.a (o.value s) s.p).2 := by
  rw [State.accumulate_spec]

/-! #### Bytes as numbers -/

theorem getLsbD_seven (b : Byte) : b.getLsbD 7 = decide (128 ≤ b.toNat) :=
  (BitVec.msb_eq_getLsbD_last b).symm.trans (BitVec.msb_eq_decide b)

theorem getLsbD_seven_ofInt (i : Int) : (BitVec.ofInt 8 i).getLsbD 7 = decide (128 ≤ i % 256) := by
  rw [getLsbD_seven, BitVec.toNat_ofInt, decide_eq_decide]
  omega

theorem beq_zero_eq_decide (b : Byte) : (b == 0) = decide (b.toNat = 0) := by
  rw [Bool.eq_iff_iff, beq_iff_eq, decide_eq_true_iff, BitVec.toNat_eq]
  rfl

/-- The complement of a signed byte, by which subtracting is adding. -/
theorem toInt_complement (b : Byte) : (~~~b).toInt = -1 - b.toInt := by
  have hb : b.toNat < 256 := b.isLt
  rw [BitVec.toInt_eq_toNat_cond, BitVec.toInt_eq_toNat_cond, BitVec.toNat_not]
  split <;> split <;> omega

theorem toNat_and_0x0F (b : Byte) : (b &&& 0x0F).toNat = b.toNat % 16 :=
  Nat.and_two_pow_sub_one_eq_mod b.toNat 4

theorem toNat_and_0xF0 (b : Byte) : (b &&& 0xF0).toNat = b.toNat / 16 * 16 := by
  revert b
  decide

theorem carryIn_le_one (p : Byte) : carryIn p ≤ 1 := Bool.toNat_le _

/-- A byte that holds two decimal digits (R211). -/
theorem isBcd_bcdValue_of_digits {b : Byte} {k : Nat} (hk : k < 100) (h : b.toNat = k / 10 * 16 + k % 10) :
    IsBcd b ∧ bcdValue b = k := by
  rw [IsBcd, bcdValue]
  omega

/-! #### The flags after a result -/

/-- Carry, then N and Z from a result: what `FlagsNZC` says of every flag. -/
theorem flagsNZC_of_setNZ {s t : State} {v : Byte} {c : Bool} (h : t.p = setNZ (putFlag s.p .c c) v) :
    FlagsNZC s t v c := by
  intro f
  rw [State.flag, h, flagOf_setNZ, flagOf_putFlag]
  cases f <;> rfl

/-- Carry and overflow, then N and Z from a result: what `FlagsNVZC` says of every flag. -/
theorem flagsNVZC_of_setNZ {s t : State} {r : Byte} {v c : Bool}
    (h : t.p = setNZ (putFlag (putFlag s.p .c c) .v v) r) :
    FlagsNVZC s t (decide (128 ≤ r.toNat)) v (decide (r.toNat = 0)) c := by
  intro f
  rw [State.flag, h, flagOf_setNZ, flagOf_putFlag, flagOf_putFlag, getLsbD_seven, beq_zero_eq_decide]
  cases f <;> rfl

/-! #### ADC in binary mode (R210) -/

theorem adc_of_binary {p : Byte} (a m : Byte) (h : flagOf p .d = false) : adc a m p = adcBinary a m p := by
  rw [adc, h]
  rfl

theorem adc_of_decimal {p : Byte} (a m : Byte) (h : flagOf p .d = true) : adc a m p = adcDecimal a m p := by
  rw [adc, h]
  rfl

/-- R210's corner case: that the operands have one sign and the sum has the other says that the signed sum does not fit.
As numbers: split on the signs of the operands. -/
theorem overflow_add (a m : Byte) {c : Nat} (hc : c ≤ 1) :
    (~~~(a ^^^ m) &&& (a ^^^ BitVec.ofNat 8 (a.toNat + m.toNat + c))).getLsbD 7 =
      decide (a.toInt + m.toInt + c < -128 ∨ 127 < a.toInt + m.toInt + c) := by
  have ha : a.toNat < 256 := a.isLt
  have hm : m.toNat < 256 := m.isLt
  rw [BitVec.getLsbD_and, BitVec.getLsbD_not, BitVec.getLsbD_xor, BitVec.getLsbD_xor, Bool.eq_iff_iff,
    BitVec.toInt_eq_toNat_cond, BitVec.toInt_eq_toNat_cond]
  simp only [getLsbD_seven, BitVec.toNat_ofNat, Nat.lt_add_one, Bool.and_eq_true, Bool.not_eq_true',
    bne_eq_false_iff_eq, bne_iff_ne, ne_eq, decide_eq_decide, decide_eq_true_iff, true_and]
  split <;> split <;> omega

theorem flagsNVZC_of_adcBinary {s t : State} {m : Byte} (h : t.p = (adcBinary s.a m s.p).2) :
    FlagsNVZC s t (decide (128 ≤ (s.a.toNat + m.toNat + carryIn s.p) % 256))
      (decide (s.a.toInt + m.toInt + carryIn s.p < -128 ∨ 127 < s.a.toInt + m.toInt + carryIn s.p))
      (decide ((s.a.toNat + m.toNat + carryIn s.p) % 256 = 0))
      (decide (255 < s.a.toNat + m.toNat + carryIn s.p)) := by
  have hflags := flagsNVZC_of_setNZ h
  rwa [overflow_add s.a m (carryIn_le_one s.p), BitVec.toNat_ofNat] at hflags

/-- Settles O39: with D clear the forms accumulate by `adcBinary`, whose overflow bit is the signed range. -/
theorem adcBinaryAddsWithCarry : Obligations.AdcBinaryAddsWithCarry := by
  intro v a w s hd f hf
  refine ⟨_, exec_adcForm v a w s f hf, ?_⟩
  rw [State.accumulate_spec, adc_of_binary _ _ hd]
  exact ⟨rfl, flagsNVZC_of_adcBinary rfl⟩

/-! #### ADC in decimal mode (R211) -/

/-- `al` of R211. -/
def adcLowDigit (a m : Byte) (c : Nat) : Nat :=
  let al0 := a.toNat % 16 + m.toNat % 16 + c
  if 10 ≤ al0 then (al0 + 6) % 16 + 16 else al0

/-- `s1` of R211 as corrected by 0x60. -/
def adcDecimalSum (a m : Byte) (c : Nat) : Nat :=
  let s1 := a.toNat / 16 * 16 + m.toNat / 16 * 16 + adcLowDigit a m c
  if 160 ≤ s1 then s1 + 96 else s1

/-- `s2` of R211. -/
def adcDecimalSigned (a m : Byte) (c : Nat) : Int := (a &&& 0xF0).toInt + (m &&& 0xF0).toInt + adcLowDigit a m c

/-- The model's `adcDecimal`, in terms of R211's quantities. -/
theorem adcDecimal_eq (a m p : Byte) :
    let s2 := adcDecimalSigned a m (carryIn p)
    let sum := adcDecimalSum a m (carryIn p)
    adcDecimal a m p = (BitVec.ofNat 8 sum,
      putFlag (putFlag (putFlag (putFlag p .n ((BitVec.ofInt 8 s2).getLsbD 7)) .v (decide (s2 < -128 ∨ 127 < s2))) .c
        (decide (256 ≤ sum))) .z (BitVec.ofNat 8 (a.toNat + m.toNat + carryIn p) == 0)) := by
  simp only [adcDecimal, toNat_and_0x0F, toNat_and_0xF0]
  rfl

theorem flagsNVZC_of_adcDecimal {s t : State} {m : Byte} (h : t.p = (adcDecimal s.a m s.p).2) :
    FlagsNVZC s t (decide (128 ≤ adcDecimalSigned s.a m (carryIn s.p) % 256))
      (decide (adcDecimalSigned s.a m (carryIn s.p) < -128 ∨ 127 < adcDecimalSigned s.a m (carryIn s.p)))
      (decide ((s.a.toNat + m.toNat + carryIn s.p) % 256 = 0))
      (decide (256 ≤ adcDecimalSum s.a m (carryIn s.p))) := by
  intro f
  rw [State.flag, h, adcDecimal_eq, getLsbD_seven_ofInt, beq_zero_eq_decide, BitVec.toNat_ofNat,
    flagOf_putFlag, flagOf_putFlag, flagOf_putFlag, flagOf_putFlag]
  cases f <;> rfl

/-- On packed BCD the low digits are added in decimal, with a carry to the high digits. -/
theorem adcLowDigit_bcd {a m : Byte} {c : Nat} (hc : c ≤ 1) (ha : IsBcd a) (hm : IsBcd m) {x : Nat}
    (hx : x = a.toNat % 16 + m.toNat % 16 + c) : adcLowDigit a m c = x / 10 * 16 + x % 10 := by
  obtain ⟨-, hal⟩ := ha
  obtain ⟨-, hml⟩ := hm
  rw [adcLowDigit]
  split <;> omega

/-- On packed BCD the sum has the digits of the decimal sum, its hundreds standing for the carry. -/
theorem adcDecimalSum_bcd {a m : Byte} {c : Nat} (hc : c ≤ 1) (ha : IsBcd a) (hm : IsBcd m) {n : Nat}
    (hn : n = bcdValue a + bcdValue m + c) :
    adcDecimalSum a m c = n / 100 * 256 + (n % 100 / 10 * 16 + n % 100 % 10) := by
  rw [adcDecimalSum, adcLowDigit_bcd hc ha hm rfl]
  obtain ⟨hah, hal⟩ := ha
  obtain ⟨hmh, hml⟩ := hm
  rw [bcdValue, bcdValue] at hn
  split <;> omega

/-- R211: on packed BCD the result is the decimal sum mod 100, and C its carry. -/
theorem adcDecimal_bcd {a m : Byte} {c : Nat} (hc : c ≤ 1) (ha : IsBcd a) (hm : IsBcd m) :
    IsBcd (BitVec.ofNat 8 (adcDecimalSum a m c)) ∧
      bcdValue (BitVec.ofNat 8 (adcDecimalSum a m c)) = (bcdValue a + bcdValue m + c) % 100 ∧
      (256 ≤ adcDecimalSum a m c ↔ 100 ≤ bcdValue a + bcdValue m + c) := by
  have hsum := adcDecimalSum_bcd hc ha hm rfl
  obtain ⟨hbcd, hvalue⟩ := isBcd_bcdValue_of_digits (b := BitVec.ofNat 8 (adcDecimalSum a m c))
    (k := (bcdValue a + bcdValue m + c) % 100) (by omega) (by rw [BitVec.toNat_ofNat]; omega)
  exact ⟨hbcd, hvalue, by omega⟩

/-- Settles O40: with D set the forms accumulate by `adcDecimal`, which on packed BCD adds digit by digit. -/
theorem adcDecimalFollowsTheNmosAlgorithm : Obligations.AdcDecimalFollowsTheNmosAlgorithm := by
  intro v a w s hd f hf
  refine ⟨_, exec_adcForm v a w s f hf, ?_⟩
  have ha := State.accumulate_a s adc f.operand f.cycles
  have hp := State.accumulate_p s adc f.operand f.cycles
  rw [adc_of_decimal _ _ hd] at ha hp
  rw [adcDecimal_eq] at ha
  have hflags := flagsNVZC_of_adcDecimal hp
  refine ⟨?_, hflags, fun hba hbm => ?_⟩
  · rw [State.accumulate_spec, adc_of_decimal _ _ hd, adcDecimal_eq]
    rfl
  · obtain ⟨hbcd, hvalue, hcarry⟩ := adcDecimal_bcd (carryIn_le_one s.p) hba hbm
    exact ⟨ha ▸ hbcd, ha ▸ hvalue, (hflags .c).trans (decide_eq_decide.mpr hcarry)⟩

/-! #### SBC (R212) -/

/-- The difference is the sum with the complement, less the carry that says there was no borrow. -/
theorem sbcDifference_eq (a m p : Byte) :
    sbcDifference a m p = ((a.toNat + (~~~m).toNat + carryIn p : Nat) : Int) - 256 := by
  have hm : m.toNat < 256 := m.isLt
  rw [sbcDifference, BitVec.toNat_not]
  omega

theorem ofInt_sbcDifference (a m p : Byte) :
    BitVec.ofInt 8 (sbcDifference a m p) = (adcBinary a (~~~m) p).1 := by
  apply BitVec.eq_of_toNat_eq
  rw [adcBinary, BitVec.toNat_ofInt, BitVec.toNat_ofNat, sbcDifference_eq]
  omega

theorem sbcFlags_eq_adcBinary (a m p : Byte) : sbcFlags a m p = (adcBinary a (~~~m) p).2 := by
  have hsigns : a ^^^ m = ~~~(a ^^^ ~~~m) := by ext; simp
  have hcarry : sbcDifference a m p ≥ 0 ↔ a.toNat + (~~~m).toNat + carryIn p > 0xFF := by
    rw [sbcDifference_eq]
    omega
  simp only [sbcFlags, hsigns, hcarry, ofInt_sbcDifference]
  rfl

theorem sbc_of_binary {p : Byte} (a m : Byte) (h : flagOf p .d = false) :
    sbc a m p = (BitVec.ofInt 8 (sbcDifference a m p), sbcFlags a m p) := by
  rw [sbc, h]
  rfl

theorem sbc_of_decimal {p : Byte} (a m : Byte) (h : flagOf p .d = true) :
    sbc a m p = (sbcDecimalResult a m p, sbcFlags a m p) := by
  rw [sbc, h]
  rfl

/-- R212: in binary mode SBC is ADC of the complement. -/
theorem sbc_eq_adc_complement {p : Byte} (a m : Byte) (h : flagOf p .d = false) : sbc a m p = adc a (~~~m) p := by
  rw [sbc_of_binary _ _ h, adc_of_binary _ _ h, sbcFlags_eq_adcBinary, ofInt_sbcDifference]

/-- The flags of SBC are those of adding the complement, whose number and signed value give the two differences. -/
theorem flagsNVZC_of_sbcFlags {s t : State} {m : Byte} (h : t.p = sbcFlags s.a m s.p) :
    FlagsNVZC s t (decide (128 ≤ sbcDifference s.a m s.p % 256))
      (decide (s.a.toInt - m.toInt - (1 - carryIn s.p) < -128 ∨ 127 < s.a.toInt - m.toInt - (1 - carryIn s.p)))
      (decide (sbcDifference s.a m s.p % 256 = 0)) (decide (0 ≤ sbcDifference s.a m s.p)) := by
  have hsigned : s.a.toInt - m.toInt - (1 - carryIn s.p) = s.a.toInt + (~~~m).toInt + carryIn s.p := by
    rw [toInt_complement]
    omega
  rw [hsigned, sbcDifference_eq]
  convert flagsNVZC_of_adcBinary (h.trans (sbcFlags_eq_adcBinary s.a m s.p)) using 2 <;> omega

theorem exec_adcImm (v : Byte) (s : State) : exec (.adcImm v) s = .next (s.accumulate adc (.imm v) 2) := rfl

theorem exec_sbcImm (v : Byte) (s : State) : exec (.sbcImm v) s = .next (s.accumulate sbc (.imm v) 2) := rfl

theorem ReadOperand.value_imm (v : Byte) (s : State) : (ReadOperand.imm v).value s = v := rfl

/-- Settles O41: the flags are those of adding the complement, in both modes, and in binary mode so is A. -/
theorem sbcSubtractsWithBorrow : Obligations.SbcSubtractsWithBorrow := by
  refine fun v a w s => ⟨fun f hf => ⟨_, exec_sbcForm v a w s f hf, ?_⟩, fun hd => ?_⟩
  · rw [State.accumulate_spec]
    refine ⟨rfl, fun hd => ?_, flagsNVZC_of_sbcFlags rfl⟩
    rw [sbc_of_binary _ _ hd]
    rfl
  · rw [exec_sbcImm, exec_adcImm, State.accumulate_spec, State.accumulate_spec, ReadOperand.value_imm,
      ReadOperand.value_imm, sbc_eq_adc_complement _ _ hd]
    rfl

/-! #### SBC in decimal mode (R213) -/

/-- `al` of R213. -/
def sbcLowDigit (a m : Byte) (c : Nat) : Int :=
  let al0 : Int := (a.toNat % 16 : Nat) - (m.toNat % 16 : Nat) + c - 1
  if al0 < 0 then (al0 - 6) % 16 - 16 else al0

/-- `s` of R213 as corrected by 0x60. -/
def sbcDecimalDifference (a m : Byte) (c : Nat) : Int :=
  let r : Int := (a.toNat / 16 * 16 : Nat) - (m.toNat / 16 * 16 : Nat) + sbcLowDigit a m c
  if r < 0 then r - 96 else r

/-- The model's `sbcDecimalResult`, in terms of R213's quantities. -/
theorem sbcDecimalResult_eq (a m p : Byte) :
    sbcDecimalResult a m p = BitVec.ofInt 8 (sbcDecimalDifference a m (carryIn p)) := by
  simp only [sbcDecimalResult, toNat_and_0x0F, toNat_and_0xF0]
  rfl

/-- On packed BCD the low digits are subtracted in decimal, with a borrow from the high digits. -/
theorem sbcLowDigit_bcd {a m : Byte} {c : Nat} (hc : c ≤ 1) (ha : IsBcd a) (hm : IsBcd m) {x : Int}
    (hx : x = (a.toNat % 16 : Nat) - (m.toNat % 16 : Nat) - (1 - c)) : sbcLowDigit a m c = x / 10 * 16 + x % 10 := by
  obtain ⟨-, hal⟩ := ha
  obtain ⟨-, hml⟩ := hm
  rw [sbcLowDigit]
  split <;> omega

/-- On packed BCD the difference has the digits of the decimal difference mod 100; a borrow takes 256 away. -/
theorem sbcDecimalDifference_bcd {a m : Byte} {c : Nat} (hc : c ≤ 1) (ha : IsBcd a) (hm : IsBcd m) {n : Int}
    (hn : n = (bcdValue a : Int) - bcdValue m - (1 - c)) :
    sbcDecimalDifference a m c = n / 100 * 256 + (n % 100 / 10 * 16 + n % 100 % 10) := by
  rw [sbcDecimalDifference, sbcLowDigit_bcd hc ha hm rfl]
  obtain ⟨hah, hal⟩ := ha
  obtain ⟨hmh, hml⟩ := hm
  rw [bcdValue, bcdValue] at hn
  split <;> omega

/-- R213: on packed BCD the result is the decimal difference mod 100. -/
theorem sbcDecimal_bcd {a m : Byte} {c : Nat} (hc : c ≤ 1) (ha : IsBcd a) (hm : IsBcd m) :
    IsBcd (BitVec.ofInt 8 (sbcDecimalDifference a m c)) ∧
      (bcdValue (BitVec.ofInt 8 (sbcDecimalDifference a m c)) : Int) =
        ((bcdValue a : Int) - bcdValue m - (1 - c)) % 100 := by
  have hdiff := sbcDecimalDifference_bcd hc ha hm rfl
  obtain ⟨hbcd, hvalue⟩ := isBcd_bcdValue_of_digits (b := BitVec.ofInt 8 (sbcDecimalDifference a m c))
    (k := (((bcdValue a : Int) - bcdValue m - (1 - c)) % 100).toNat) (by omega) (by rw [BitVec.toNat_ofInt]; omega)
  exact ⟨hbcd, by omega⟩

/-- R213: on packed BCD the binary and the decimal difference have one sign, so C is clear on a decimal borrow. -/
theorem sbcDifference_nonneg_bcd {a m p : Byte} (ha : IsBcd a) (hm : IsBcd m) :
    0 ≤ sbcDifference a m p ↔ 0 ≤ (bcdValue a : Int) - bcdValue m - (1 - carryIn p) := by
  have hc : carryIn p ≤ 1 := carryIn_le_one p
  obtain ⟨hah, hal⟩ := ha
  obtain ⟨hmh, hml⟩ := hm
  rw [sbcDifference, bcdValue, bcdValue]
  omega

/-- R212: D is not read for the flags. -/
theorem flagOf_sbcFlags_putFlag_d (a m p : Byte) (on : Bool) {g : Flag} (hg : g ≠ .d) :
    flagOf (sbcFlags a m (putFlag p .d on)) g = flagOf (sbcFlags a m p) g := by
  simp [sbcFlags, sbcDifference, carryIn, flagOf_setNZ, hg]

/-- An operand does not depend on the status. -/
theorem ReadOperand.value_putFlag (o : ReadOperand) (s : State) (g : Flag) (on : Bool) :
    o.value (s.putFlag g on) = o.value s := by
  cases o with
  | imm v => rfl
  | mem m => cases m <;> rfl

/-- Settles O42: with D set A is `sbcDecimalResult`, which on packed BCD subtracts digit by digit; the flags of SBC do
not depend on D. -/
theorem sbcDecimalFollowsTheNmosAlgorithm : Obligations.SbcDecimalFollowsTheNmosAlgorithm := by
  intro v a w s hd f hf
  refine ⟨_, _, exec_sbcForm v a w s f hf, exec_sbcForm v a w (s.putFlag .d false) f hf, ?_⟩
  have ha : (s.accumulate sbc f.operand f.cycles).a =
      BitVec.ofInt 8 (sbcDecimalDifference s.a (f.operand.value s) (carryIn s.p)) := by
    rw [State.accumulate_a, sbc_of_decimal _ _ hd, sbcDecimalResult_eq]
  refine ⟨ha, fun g hg => ?_, ?_, fun hba hbm => ?_⟩
  · rw [State.flag, State.flag, State.accumulate_p, State.accumulate_p, ReadOperand.value_putFlag]
    exact (flagOf_sbcFlags_putFlag_d _ _ _ _ hg).symm
  · rw [State.flag, State.accumulate_p, flagOf_sbc_other _ _ _ (by decide) (by decide) (by decide) (by decide)]
    exact hd
  · obtain ⟨hbcd, hvalue⟩ := sbcDecimal_bcd (carryIn_le_one s.p) hba hbm
    have hcarry := flagsNVZC_of_sbcFlags (State.accumulate_p s sbc f.operand f.cycles) .c
    exact ⟨ha ▸ hbcd, ha ▸ hvalue, hcarry.trans (decide_eq_decide.mpr (sbcDifference_nonneg_bcd hba hbm))⟩

/-! #### Compares (R214 to R217) -/

/-- R214 on bytes: the difference mod 2^8, and C as the order of the operands. -/
theorem compareFlags_eq (r m p : Byte) :
    compareFlags r m p = setNZ (putFlag p .c (decide (m.toNat ≤ r.toNat))) (r - m) := by
  have hr : r.toNat < 256 := r.isLt
  have hm : m.toNat < 256 := m.isLt
  have hcarry : (r.toNat : Int) - m.toNat ≥ 0 ↔ m.toNat ≤ r.toNat := by omega
  have hdiff : BitVec.ofInt 8 ((r.toNat : Int) - m.toNat) = r - m := by
    apply BitVec.eq_of_toNat_eq
    rw [BitVec.toNat_ofInt, BitVec.toNat_sub]
    omega
  simp only [compareFlags, hcarry, hdiff]

/-- Settles O43: by the law of compares, with the flags of the difference. -/
theorem comparesWriteOnlyNZC : Obligations.ComparesWriteOnlyNZC := by
  intro v a w s f hf
  refine ⟨_, exec_compareForm v a w s f hf, ?_⟩
  rw [State.compare_spec]
  exact ⟨rfl, flagsNZC_of_setNZ (compareFlags_eq _ _ _)⟩

/-! #### Increments and decrements (R218 to R223) -/

/-- R218: INC has no accumulator form. -/
theorem incForm_operand (a : Byte) (w : Addr) : ∀ f ∈ incForms a w, ∃ o, f.operand = .mem o := by
  simp [incForms]

/-- R219: DEC has none either. -/
theorem decForm_operand (a : Byte) (w : Addr) : ∀ f ∈ decForms a w, ∃ o, f.operand = .mem o := by
  simp [decForms]

/-- A read-modify-write leaves its result in its operand alone (40_addressing_modes.md R136). -/
theorem State.modify_writtenBack {s : State} (h : s.mem.wf = true) (f : Byte → Byte → Byte × Byte) (o : RmwOperand)
    (n : Nat) : WrittenBack o s (s.modify f o n) (f (o.value s) s.p).1 := by
  cases o with
  | acc => exact ⟨rfl, State.read_congr rfl⟩
  | mem m => exact ⟨rfl, State.read_write h (m.ea s) _⟩

/-- The status that a read-modify-write leaves. -/
theorem State.modify_p (s : State) (f : Byte → Byte → Byte × Byte) (o : RmwOperand) (n : Nat) :
    (s.modify f o n).p = (f (o.value s) s.p).2 := rfl

/-- What a read-modify-write on memory leaves besides memory and the status. -/
theorem State.modify_frame_of_mem (s : State) (f : Byte → Byte → Byte × Byte) {o : RmwOperand} (n : Nat)
    (ho : ∃ m, o = .mem m) :
    s.modify f o n = { s with
      mem := (s.modify f o n).mem, p := (s.modify f o n).p,
      pc := s.pc + BitVec.ofNat 16 o.length, cyc := s.cyc + n } := by
  obtain ⟨m, rfl⟩ := ho
  rfl

/-- Settles O44: by the laws of read-modify-write; that the cell reads back needs the canonical memory of the
invariant. -/
theorem incAndDecWorkInPlace : Obligations.IncAndDecWorkInPlace := by
  refine fun a w s hs => ⟨fun f hf => ⟨_, exec_incForm a w s f hf, ?_⟩, fun f hf => ⟨_, exec_decForm a w s f hf, ?_⟩⟩
  · exact ⟨State.modify_frame_of_mem s incByte f.cycles (incForm_operand a w f hf),
      State.modify_writtenBack hs.memWf incByte f.operand f.cycles,
      flagsNZ_of_setNZ (State.modify_p s incByte f.operand f.cycles)⟩
  · exact ⟨State.modify_frame_of_mem s decByte f.cycles (decForm_operand a w f hf),
      State.modify_writtenBack hs.memWf decByte f.operand f.cycles,
      flagsNZ_of_setNZ (State.modify_p s decByte f.operand f.cycles)⟩

/-- What an instruction does whose meaning is to put a result in a register, in 2 cycles. -/
theorem setsRegisterAndNZ_of_setResult {i : Instr} {s : State} {r : Reg} {v : Byte}
    (hexec : exec i s = .next ((s.setResult r v).retire 1 2)) :
    ∃ t, exec i s = .next t ∧ t = { s.set r v with p := t.p, pc := s.pc + 1, cyc := s.cyc + 2 } ∧ FlagsNZ s t v := by
  refine ⟨_, hexec, ?_⟩
  rw [State.setResult_spec, State.retire, State.set_pc, State.set_cyc]
  exact ⟨rfl, flagsNZ_of_setNZ rfl⟩

/-- Settles O45: each of the four has its rule's opcode and puts its sum or difference in its register. -/
theorem indexIncrementsAndDecrements : Obligations.IndexIncrementsAndDecrements := by
  intro s f hf
  simp only [List.mem_cons, List.not_mem_nil, or_false] at hf
  obtain rfl | rfl | rfl | rfl := hf
  all_goals exact ⟨rfl, setsRegisterAndNZ_of_setResult rfl⟩

end Sys2Proof.Machine

namespace Sys2Proof.Machine

/-! ### Logic, bit test, shifts and rotates (45_logic_shift.md R240 to R248)

As for arithmetic, the forms of a family run one shared shape, whose law says what becomes of the state. The shifts and
rotates are one kind of byte computation: a number mod 2^8 for the result, and a bit for C. -/

/-! #### Shifts and rotates (R244 to R248) -/

theorem exec_aslForm (a : Byte) (w : Addr) (s : State) :
    ∀ f ∈ aslForms a w, exec f.instr s = .next (s.modify aslByte f.operand f.cycles) :=
  List.map_inj_left.mp rfl

theorem exec_lsrForm (a : Byte) (w : Addr) (s : State) :
    ∀ f ∈ lsrForms a w, exec f.instr s = .next (s.modify lsrByte f.operand f.cycles) :=
  List.map_inj_left.mp rfl

theorem exec_rolForm (a : Byte) (w : Addr) (s : State) :
    ∀ f ∈ rolForms a w, exec f.instr s = .next (s.modify rolByte f.operand f.cycles) :=
  List.map_inj_left.mp rfl

theorem exec_rorForm (a : Byte) (w : Addr) (s : State) :
    ∀ f ∈ rorForms a w, exec f.instr s = .next (s.modify rorByte f.operand f.cycles) :=
  List.map_inj_left.mp rfl

/-- The result byte and the status after a shift or a rotate, from the number it computes and the bit it shifts out. -/
def shifted (p : Byte) (res : Nat × Bool) : Byte × Byte :=
  (BitVec.ofNat 8 res.1, setNZ (putFlag p .c res.2) (BitVec.ofNat 8 res.1))

theorem getLsbD_zero (b : Byte) : b.getLsbD 0 = decide (b.toNat % 2 = 1) := Nat.testBit_zero b.toNat

theorem shiftLeft_eq_ofNat (b : Byte) (n : Nat) : b <<< n = BitVec.ofNat 8 (b.toNat <<< n) := rfl

theorem shiftRight_eq_ofNat (b : Byte) (n : Nat) : b >>> n = BitVec.ofNat 8 (b.toNat >>> n) := by
  rw [← BitVec.toNat_ushiftRight, BitVec.ofNat_toNat, BitVec.setWidth_eq]

/-- The carry enters at bit 0, which the left shift has vacated, so that putting it there is adding it. -/
theorem shiftLeft_one_or_carry (v : Byte) {c : Nat} (hc : c ≤ 1) :
    v <<< 1 ||| BitVec.ofNat 8 c = BitVec.ofNat 8 (2 * v.toNat + c) := by
  have hbit : c < 2 ^ 1 := by omega
  rw [shiftLeft_eq_ofNat, ← BitVec.ofNat_or, ← Nat.shiftLeft_add_eq_or_of_lt hbit, Nat.shiftLeft_eq, Nat.pow_one,
    Nat.mul_comm]

/-- The carry enters at bit 7, which the right shift has vacated. -/
theorem shiftRight_one_or_carry (v : Byte) {c : Nat} (hc : c ≤ 1) :
    v >>> 1 ||| BitVec.ofNat 8 c <<< 7 = BitVec.ofNat 8 (v.toNat / 2 + 128 * c) := by
  have hv : v.toNat < 256 := v.isLt
  have hhalf : v.toNat / 2 < 2 ^ 7 := by omega
  have hcarry : (BitVec.ofNat 8 c).toNat = c := by rw [BitVec.toNat_ofNat]; omega
  rw [shiftLeft_eq_ofNat, hcarry, shiftRight_eq_ofNat, Nat.shiftRight_eq_div_pow, Nat.pow_one, ← BitVec.ofNat_or,
    Nat.or_comm, ← Nat.shiftLeft_add_eq_or_of_lt hhalf, Nat.shiftLeft_eq, Nat.mul_comm, Nat.add_comm]

theorem aslByte_eq (v p : Byte) : aslByte v p = shifted p (2 * v.toNat, decide (128 ≤ v.toNat)) := by
  rw [aslByte, shiftLeft_eq_ofNat, Nat.shiftLeft_eq, Nat.pow_one, Nat.mul_comm, getLsbD_seven]
  rfl

theorem lsrByte_eq (v p : Byte) : lsrByte v p = shifted p (v.toNat / 2, decide (v.toNat % 2 = 1)) := by
  rw [lsrByte, shiftRight_eq_ofNat, Nat.shiftRight_eq_div_pow, Nat.pow_one, getLsbD_zero]
  rfl

theorem rolByte_eq (v p : Byte) : rolByte v p = shifted p (2 * v.toNat + carryIn p, decide (128 ≤ v.toNat)) := by
  rw [rolByte, shiftLeft_one_or_carry v (carryIn_le_one p), getLsbD_seven]
  rfl

theorem rorByte_eq (v p : Byte) :
    rorByte v p = shifted p (v.toNat / 2 + 128 * carryIn p, decide (v.toNat % 2 = 1)) := by
  rw [rorByte, shiftRight_one_or_carry v (carryIn_le_one p), getLsbD_zero]
  rfl

/-- What a read-modify-write on A or on memory leaves besides A, memory and the status. -/
theorem State.modify_frame (s : State) (f : Byte → Byte → Byte × Byte) (o : RmwOperand) (n : Nat) :
    s.modify f o n = { s with
      a := (s.modify f o n).a, mem := (s.modify f o n).mem, p := (s.modify f o n).p,
      pc := s.pc + BitVec.ofNat 16 o.length, cyc := s.cyc + n } := by
  cases o <;> rfl

/-- What an instruction does whose meaning is a read-modify-write by a shift or a rotate. -/
theorem movesThroughCarry_of_modify {i : Instr} {s : State} {op : Byte → Byte → Byte × Byte} {o : RmwOperand} {n : Nat}
    {res : Nat × Bool} (hs : s.Inv) (hexec : exec i s = .next (s.modify op o n))
    (hop : op (o.value s) s.p = shifted s.p res) :
    ∃ t, exec i s = .next t ∧
      t = { s with a := t.a, mem := t.mem, p := t.p, pc := s.pc + BitVec.ofNat 16 o.length, cyc := s.cyc + n } ∧
      WrittenBack o s t (BitVec.ofNat 8 res.1) ∧ FlagsNZC s t (BitVec.ofNat 8 res.1) res.2 := by
  have hwritten := State.modify_writtenBack hs.memWf op o n
  have hstatus := State.modify_p s op o n
  rw [hop] at hwritten hstatus
  exact ⟨_, hexec, State.modify_frame s op o n, hwritten, flagsNZC_of_setNZ hstatus⟩

/-- Settles O48: each of the four is a read-modify-write whose byte computation is its rule's number and bit; that the
cell reads back needs the canonical memory of the invariant. -/
theorem shiftsAndRotatesMoveThroughCarry : Obligations.ShiftsAndRotatesMoveThroughCarry := by
  refine fun a w s hs => ⟨⟨rfl, rfl, rfl, rfl⟩, fun g hg f hf => ?_⟩
  simp only [List.mem_cons, List.not_mem_nil, or_false] at hg
  obtain rfl | rfl | rfl | rfl := hg
  · exact movesThroughCarry_of_modify hs (exec_aslForm a w s f hf) (aslByte_eq _ _)
  · exact movesThroughCarry_of_modify hs (exec_lsrForm a w s f hf) (lsrByte_eq _ _)
  · exact movesThroughCarry_of_modify hs (exec_rolForm a w s f hf) (rolByte_eq _ _)
  · exact movesThroughCarry_of_modify hs (exec_rorForm a w s f hf) (rorByte_eq _ _)

/-! #### AND, ORA and EOR (R240 to R242) -/

theorem exec_andForm (v a : Byte) (w : Addr) (s : State) :
    ∀ f ∈ andForms v a w, exec f.instr s = .next (s.accumulate andByte f.operand f.cycles) :=
  List.map_inj_left.mp rfl

theorem exec_oraForm (v a : Byte) (w : Addr) (s : State) :
    ∀ f ∈ oraForms v a w, exec f.instr s = .next (s.accumulate oraByte f.operand f.cycles) :=
  List.map_inj_left.mp rfl

theorem exec_eorForm (v a : Byte) (w : Addr) (s : State) :
    ∀ f ∈ eorForms v a w, exec f.instr s = .next (s.accumulate eorByte f.operand f.cycles) :=
  List.map_inj_left.mp rfl

/-- What an instruction does whose meaning is an operation on A that sets N and Z from its result. -/
theorem setsAAndNZ_of_accumulate {i : Instr} {s : State} {op : Byte → Byte → Byte → Byte × Byte} {o : ReadOperand}
    {n : Nat} {r : Byte} (hexec : exec i s = .next (s.accumulate op o n))
    (hop : op s.a (o.value s) s.p = (r, setNZ s.p r)) :
    ∃ t, exec i s = .next t ∧
      t = { s with a := r, p := t.p, pc := s.pc + BitVec.ofNat 16 o.length, cyc := s.cyc + n + o.penalty s } ∧
      FlagsNZ s t r := by
  refine ⟨_, hexec, ?_⟩
  rw [State.accumulate_spec, hop]
  exact ⟨rfl, flagsNZ_of_setNZ rfl⟩

/-- Settles O46: each of the three is an operation on A, with its bitwise result and the flags of SetNZ. -/
theorem logicalOperationsOnA : Obligations.LogicalOperationsOnA := by
  intro v a w s g hg f hf
  simp only [List.mem_cons, List.not_mem_nil, or_false] at hg
  obtain rfl | rfl | rfl := hg
  · exact setsAAndNZ_of_accumulate (exec_andForm v a w s f hf) rfl
  · exact setsAAndNZ_of_accumulate (exec_oraForm v a w s f hf) rfl
  · exact setsAAndNZ_of_accumulate (exec_eorForm v a w s f hf) rfl

/-! #### BIT (R243) -/

theorem exec_bitForm (a : Byte) (w : Addr) (s : State) :
    ∀ f ∈ bitForms a w, exec f.instr s = .next (s.bitTest f.operand f.cycles) :=
  List.map_inj_left.mp rfl

/-- The status that BIT leaves is what `FlagsNVZC` says of every flag, with C as before. -/
theorem flagsNVZC_of_bitFlags {s t : State} {m : Byte} (h : t.p = bitFlags s.a m s.p) :
    FlagsNVZC s t (m.getLsbD 7) (m.getLsbD 6) (s.a &&& m == 0) (s.flag .c) := by
  intro f
  rw [State.flag, h, bitFlags, flagOf_putFlag, flagOf_putFlag, flagOf_putFlag]
  cases f <;> rfl

/-- Settles O47: by the law of bit tests, with the flags of `bitFlags`. -/
theorem bitTakesNVFromMemory : Obligations.BitTakesNVFromMemory := by
  refine fun a w s => ⟨rfl, rfl, fun f hf => ⟨_, exec_bitForm a w s f hf, ?_⟩⟩
  rw [State.bitTest_spec]
  exact ⟨rfl, flagsNVZC_of_bitFlags rfl⟩

end Sys2Proof.Machine

namespace Sys2Proof.Machine

/-! ### Branches, jumps, subroutines, BRK and RTI (46_control.md R260 to R275)

A branch and a jump set PC, and what is to be shown is that the model's words for an address are the arithmetic of the
rules. JSR and BRK push: their cells are given once, for a 16-bit push and for a trap entry, and the statements read
them off. -/

/-! #### Branches (R260 to R269) -/

theorem encode_branchForm (off : Byte) : ∀ f ∈ branchForms off, encode f.instr = [f.opcode, off] :=
  List.map_inj_left.mp rfl

theorem exec_branchForm (off : Byte) (s : State) :
    ∀ f ∈ branchForms off, exec f.instr s = .next (s.branch (s.flag f.flag == f.taken) off 2) :=
  List.map_inj_left.mp rfl

/-- R131: the offset is added as a signed number, mod 2^16. -/
theorem add_sext_eq_ofInt (w : Addr) (off : Byte) : w + sext off = BitVec.ofInt 16 (w.toNat + off.toInt) := by
  rw [BitVec.ofInt_add, BitVec.ofInt_natCast, BitVec.ofNat_toNat, BitVec.setWidth_eq]
  rfl

/-- R130: a page is crossed when the page numbers differ. -/
theorem pageCrossed_eq_decide (base ea : Addr) : pageCrossed base ea = decide (base.toNat / 256 ≠ ea.toNat / 256) := by
  rw [pageCrossed, Bool.eq_iff_iff, bne_iff_ne, decide_eq_true_iff, Ne, BitVec.toNat_eq, hiByte_toNat, hiByte_toNat]

/-- R260: a branch taken costs one cycle more, or two across a page. -/
theorem branch_taken_cycles (base ea : Addr) :
    2 + 1 + (pageCrossed base ea).toNat = if base.toNat / 256 = ea.toNat / 256 then 3 else 4 := by
  rw [pageCrossed_eq_decide]
  by_cases h : base.toNat / 256 = ea.toNat / 256 <;> simp [h]

/-- Settles O49: each of the eight branches on its flag; its target and its page are the rule's arithmetic. -/
theorem branchesTakeTheirTarget : Obligations.BranchesTakeTheirTarget := by
  intro off s f hf
  refine ⟨encode_branchForm off f hf, ?_⟩
  rw [exec_branchForm off s f hf]
  split
  · next htaken =>
    rw [beq_iff_eq.mpr htaken, State.branch_taken, branch_taken_cycles, add_sext_eq_ofInt]
  · next hnot =>
    rw [beq_eq_false_iff_ne.mpr hnot, State.branch_not_taken]

/-! #### Jumps (R270) -/

theorem exec_jmpAbs (w : Addr) (s : State) : exec (.jmpAbs w) s = .next (s.jump w 3) := rfl

theorem exec_jmpInd (w : Addr) (s : State) : exec (.jmpInd w) s = .next (s.jump (s.indirectTarget w) 5) := rfl

/-- R129: the second byte of a pointer lies in the page of the first. -/
theorem addrOf_hiByte_loByte_succ (w : Addr) :
    addrOf (hiByte w) (loByte w + 1) = BitVec.ofNat 16 (w.toNat / 256 * 256 + (w.toNat + 1) % 256) := by
  have hw : w.toNat < 65536 := w.isLt
  have hone : (1 : Byte).toNat = 1 := rfl
  apply BitVec.eq_of_toNat_eq
  rw [addrOf_toNat, hiByte_toNat, BitVec.toNat_add, loByte_toNat, BitVec.toNat_ofNat, hone]
  omega

/-- Settles O50: a jump sets PC, to the operand or to the target behind the pointer. -/
theorem jumpsSetPc : Obligations.JumpsSetPc := by
  refine fun w s => ⟨rfl, rfl, exec_jmpAbs w s, ?_⟩
  rw [exec_jmpInd, State.indirectTarget, addrOf_hiByte_loByte_succ]
  rfl

/-! #### The cells that JSR and BRK push -/

theorem sp_sub_two (sp : Byte) : sp - 1 - 1 = sp - 2 := sub_sub sp 1 1

theorem sp_sub_three (sp : Byte) : sp - 1 - 1 - 1 = sp - 3 := (congrArg (· - 1) (sp_sub_two sp)).trans (sub_sub sp 2 1)

theorem sp_add_two (sp : Byte) : sp + 1 + 1 = sp + 2 := add_assoc sp 1 1

theorem sp_add_three (sp : Byte) : sp + 1 + 1 + 1 = sp + 3 := (congrArg (· + 1) (sp_add_two sp)).trans (add_assoc sp 2 1)

/-- Two different stack cells, also where SP wraps: it does not matter which of them is asked for first. -/
theorem ite_stackAddr_comm {p q : Byte} (hne : p ≠ q) (b : Addr) (u v x : Byte) :
    (if b = stackAddr p then u else if b = stackAddr q then v else x) =
      if b = stackAddr q then v else if b = stackAddr p then u else x :=
  ite_ite_comm _ _ _ _ fun hp hq => hne (stackAddr_inj (hp.symm.trans hq))

/-- What every cell holds after a 16-bit push. -/
theorem State.read_push16 {s : State} (h : s.mem.wf = true) (w b : Addr) :
    (s.push16 w).read b =
      if b = stackAddr s.sp then hiByte w else if b = stackAddr (s.sp - 1) then loByte w else s.read b := by
  have hne : s.sp - 1 ≠ s.sp := by bv_omega
  rw [State.push16, State.read_push (State.push_wf h _), State.read_push h, State.push_sp, ite_stackAddr_comm hne]

/-- What every cell holds after a trap entry. -/
theorem State.read_enterTrap {s : State} (h : s.mem.wf = true) (ret : Addr) (n : Nat) (b : Addr) :
    (s.enterTrap ret n).read b =
      if b = stackAddr s.sp then hiByte ret else if b = stackAddr (s.sp - 1) then loByte ret
      else if b = stackAddr (s.sp - 2) then pushedStatus s.p else s.read b := by
  have hmem : (s.enterTrap ret n).mem = ((s.push16 ret).push (pushedStatus s.p)).mem := rfl
  have hsp : (s.push16 ret).sp = s.sp - 2 := sp_sub_two s.sp
  have hne0 : s.sp - 2 ≠ s.sp := by bv_omega
  have hne1 : s.sp - 2 ≠ s.sp - 1 := by bv_omega
  rw [State.read_congr hmem, State.read_push (State.push16_wf h ret), hsp, State.read_push16 h,
    ite_stackAddr_comm hne0, ite_stackAddr_comm hne1]

/-- No push reaches a cell above page 1. -/
theorem ne_stackAddr {b : Addr} (hb : 512 ≤ b.toNat) (sp : Byte) : b ≠ stackAddr sp := by
  have hsp : sp.toNat < 256 := sp.isLt
  have hpage : stackPage.toNat = 1 := rfl
  rintro rfl
  rw [stackAddr, addrOf_toNat, hpage] at hb
  omega

theorem State.read_enterTrap_above {s : State} (h : s.mem.wf = true) (ret : Addr) (n : Nat) {b : Addr}
    (hb : 512 ≤ b.toNat) : (s.enterTrap ret n).read b = s.read b := by
  rw [State.read_enterTrap h, if_neg (ne_stackAddr hb _), if_neg (ne_stackAddr hb _), if_neg (ne_stackAddr hb _)]

/-! #### Subroutines (R271, R272) -/

theorem exec_jsr (w : Addr) (s : State) : exec (.jsr w) s = .next (s.call (loByte w) 6) := rfl

theorem exec_rts (s : State) : exec .rts s = .next (s.pull16.2.jump (s.pull16.1 + 1) 6) := rfl

theorem decodeOpcode_jsr (b1 b2 : Byte) : decodeOpcode 0x20 b1 b2 = some (.jsr (addrOf b2 b1)) := rfl

theorem loByte_addrOf (hi lo : Byte) : loByte (addrOf hi lo) = lo := by
  have hlo : lo.toNat < 256 := lo.isLt
  apply BitVec.eq_of_toNat_eq
  rw [loByte_toNat, addrOf_toNat]
  omega

/-- A step at the opcode of JSR takes the low byte of its target from the fetch. -/
theorem step_jsr {s : State} (hmode : s.mode = .running) (hop : s.read s.pc = 0x20) :
    step s = .next (s.call (s.read (s.pc + 1)) 6) := by
  have hfetch : s.fetch = .ok (.jsr (addrOf (s.read (s.pc + 2)) (s.read (s.pc + 1)))) := by
    rw [State.fetch_ok, hop, decodeOpcode_jsr]
  rw [step_running hmode, hfetch]
  dsimp only
  rw [exec_jsr, loByte_addrOf]

/-- What a call leaves besides memory; the high byte of its target is read after the pushes. -/
theorem State.call_frame (s : State) (lo : Byte) (n : Nat) :
    s.call lo n = { s with
      sp := s.sp - 2, mem := (s.call lo n).mem, pc := addrOf ((s.call lo n).read (s.pc + 2)) lo, cyc := s.cyc + n } := by
  rw [← sp_sub_two]
  rfl

/-- What every cell holds after a call. -/
theorem State.read_call {s : State} (h : s.mem.wf = true) (lo : Byte) (n : Nat) (b : Addr) :
    (s.call lo n).read b =
      if b = stackAddr s.sp then hiByte (s.pc + 2) else if b = stackAddr (s.sp - 1) then loByte (s.pc + 2)
      else s.read b :=
  State.read_push16 h (s.pc + 2) b

/-- Settles O52: the step is a call with the low byte fetched; that the pushed cells read back needs the canonical memory
of the invariant. -/
theorem jsrStepReadsItsHighByteLate : Obligations.JsrStepReadsItsHighByteLate := by
  intro s hs hmode hop
  refine ⟨_, step_jsr hmode hop, State.call_frame s _ 6, fun b => ?_⟩
  rw [State.read_call hs.memWf, stackAddr_eq_add, stackAddr_eq_add]

/-- Settles O53: RTS jumps past the 16-bit value it pulls. -/
theorem rtsPullsAndAddsOne : Obligations.RtsPullsAndAddsOne := by
  refine fun s => ⟨rfl, ?_⟩
  rw [exec_rts, State.pull16_spec, sp_add_two, stackAddr_eq_add, stackAddr_eq_add]
  rfl

/-! #### BRK and RTI (R274, R275, R302) -/

theorem exec_brk (s : State) : exec .brk s = .next (s.enterTrap (s.pc + 2) 7) := rfl

theorem exec_rti (s : State) : exec .rti s = .next (s.leaveTrap 6) := rfl

/-- One flag written is what `FlagsOnly` says of every flag. -/
theorem flagsOnly_of_putFlag {s t : State} {g : Flag} {on : Bool} (h : t.p = putFlag s.p g on) : FlagsOnly s t g on := by
  intro f
  rw [State.flag, h, flagOf_putFlag]
  rfl

/-- The vector lies above the stack page, so trap entry finds in it what was there before the pushes. -/
theorem State.enterTrap_pc {s : State} (h : s.mem.wf = true) (ret : Addr) (n : Nat) :
    (s.enterTrap ret n).pc = addrOf (s.read 0xFFFF) (s.read 0xFFFE) := by
  have hhi : brkVector + 1 = 0xFFFF := by decide
  rw [State.enterTrap_frame]
  dsimp only
  rw [State.read16, hhi, brkVector, State.read_enterTrap_above h ret n (by decide),
    State.read_enterTrap_above h ret n (by decide)]

theorem State.enterTrap_p (s : State) (ret : Addr) (n : Nat) :
    (s.enterTrap ret n).p = Machine.putFlag s.p .i true := by
  rw [State.enterTrap_frame]

/-- Settles O55: BRK enters the trap with its address + 2; that the pushed cells read back needs the canonical memory of
the invariant. -/
theorem brkTakesTheTrap : Obligations.BrkTakesTheTrap := by
  refine fun s hs => ⟨rfl, _, exec_brk s, ?_, flagsOnly_of_putFlag (State.enterTrap_p s _ 7), fun b => ?_⟩
  · rw [← State.enterTrap_pc hs.memWf (s.pc + 2) 7, ← sp_sub_three]
    rfl
  · rw [State.read_enterTrap hs.memWf, stackAddr_eq_add, stackAddr_eq_add, stackAddr_eq_add]
    rfl

/-- Settles O56: RTI leaves the trap, with the pulled byte as the whole status. -/
theorem rtiPullsStatusThenPc : Obligations.RtiPullsStatusThenPc := by
  refine fun s => ⟨rfl, _, exec_rti s, ?_⟩
  rw [State.leaveTrap_spec, sp_add_three, sp_add_two, stackAddr_eq_add, stackAddr_eq_add, stackAddr_eq_add]
  exact ⟨rfl, flagsPulled_of_storedStatus rfl⟩

end Sys2Proof.Machine

namespace Sys2Proof.Machine

/-! ### Flag instructions and NOP (47_flags_misc.md R290 to R297)

A flag instruction writes one flag and ends; NOP only ends. The seven share one argument over the flag and its new value. -/

/-- What an instruction does whose meaning is to write one flag, in 2 cycles. -/
theorem writesFlagOnly_of_putFlag {i : Instr} {s : State} {g : Flag} {on : Bool}
    (hexec : exec i s = .next ((s.putFlag g on).retire 1 2)) :
    ∃ t, exec i s = .next t ∧ t = { s with p := t.p, pc := s.pc + 1, cyc := s.cyc + 2 } ∧ FlagsOnly s t g on := by
  refine ⟨_, hexec, rfl, flagsOnly_of_putFlag ?_⟩
  rw [State.retire_p, State.putFlag_p]

theorem exec_nop (s : State) : exec .nop s = .next (s.retire 1 2) := rfl

/-- Settles O58: each of the seven has its rule's opcode and puts its value in its flag. -/
theorem flagInstructionsWriteOneFlag : Obligations.FlagInstructionsWriteOneFlag := by
  intro s f hf
  simp only [List.mem_cons, List.not_mem_nil, or_false] at hf
  obtain rfl | rfl | rfl | rfl | rfl | rfl | rfl := hf
  all_goals exact ⟨rfl, writesFlagOnly_of_putFlag rfl⟩

/-- Settles O59: NOP ends the instruction, with nothing before. -/
theorem nopOnlyAdvances : Obligations.NopOnlyAdvances := by
  refine fun s => ⟨rfl, ?_⟩
  rw [exec_nop, State.retire]
  rfl

end Sys2Proof.Machine

namespace Sys2Proof.Machine

/-! ### Illegal-Instruction (60_exceptions.md R300, R304, R306)

The opcode byte alone says whether the fetch finds an instruction. With none the step ends in the fault; with one it is
`exec`, which always completes. -/

theorem State.fetch_of_illegal {s : State} (h : s.read s.pc ∈ illegalOpcodes) :
    s.fetch = .error (.illegalInstruction s.pc (s.read s.pc)) := by
  simp only [State.fetch, (decodeOpcode_eq_none_iff _ _ _).mpr h]

theorem State.fetch_of_legal {s : State} (h : s.read s.pc ∉ illegalOpcodes) : ∃ i, s.fetch = .ok i := by
  obtain ⟨i, hi⟩ := Option.ne_none_iff_exists'.mp (mt (decodeOpcode_eq_none_iff _ _ _).mp h)
  exact ⟨i, State.fetch_ok.mpr hi⟩

theorem step_of_illegal {s : State} (hmode : s.mode = .running) (hop : s.read s.pc ∈ illegalOpcodes) :
    step s = .fault (.illegalInstruction s.pc (s.read s.pc)) := by
  rw [step_running hmode, State.fetch_of_illegal hop]

theorem step_of_legal {s : State} (hmode : s.mode = .running) (hop : s.read s.pc ∉ illegalOpcodes) :
    ∃ t, step s = .next t ∧ t.mode = .running := by
  obtain ⟨i, hfetch⟩ := State.fetch_of_legal hop
  obtain ⟨t, hexec, -⟩ := exec_completesAndCharges i s
  refine ⟨t, ?_, (exec_mode hexec).trans hmode⟩
  rw [step_running hmode, hfetch]
  exact hexec

/-- Settles O10: the two sides of the opcode list are the two ends of a step. -/
theorem runningStepCompletesOrFaults : Obligations.RunningStepCompletesOrFaults :=
  fun _ hmode => ⟨step_of_legal hmode, fun hop => ⟨_, step_of_illegal hmode hop⟩⟩

/-- Settles O9: the step is the fault, and the host's report of a faulting step halts the state it started from. -/
theorem illegalOpcodeFaultsAndHalts : Obligations.IllegalOpcodeFaultsAndHalts := by
  intro s hmode hop
  have hstep := step_of_illegal hmode hop
  refine ⟨hstep, ?_⟩
  rw [hostStep, runHost_fault 0 hstep, State.halt]

end Sys2Proof.Machine

namespace Sys2Proof

open Machine (loByte_addrOf)

/-! ### Decoding and encoding are inverse (30_encoding.md R90 to R99)

One direction goes by instruction: three bytes that begin with an instruction's encoding decode to it, whatever the ones
past its length are. The other goes by entry of the grid, with the two operand bytes read as one word, so that every
entry carries the bytes it was given. -/

/-- An entry of the grid that takes a word, given the two bytes of one. -/
theorem decodeOpcode_word {op : Byte} {mk : Addr → Instr}
    (hop : ∀ b1 b2, decodeOpcode op b1 b2 = some (mk (addrOf b2 b1))) (w : Addr) :
    decodeOpcode op (loByte w) (hiByte w) = some (mk w) := by
  rw [hop, addrOf_bytes]

/-- R90, R93, R97: bytes that begin with an instruction's encoding decode to it. The groups are the instructions with no
operand byte, with one and with two. -/
theorem decodeOpcode_of_encode_prefix {i : Instr} {op b1 b2 : Byte} (h : encode i <+: [op, b1, b2]) :
    decodeOpcode op b1 b2 = some i := by
  obtain ⟨rfl, hoperands⟩ : i.opcode = op ∧ i.operandBytes <+: [b1, b2] := List.cons_prefix_cons.mp h
  cases i with dsimp only [Instr.opcode, Instr.row]
  | tax | tay | txa | tya | tsx | txs | pha | php | pla | plp | inx | iny | dex | dey
  | aslAcc | lsrAcc | rolAcc | rorAcc | rts | brk | rti | clc | sec | cli | sei | clv | cld | sed | nop => rfl
  | ldaAbs w | ldaAbsX w | ldaAbsY w | ldxAbs w | ldxAbsY w | ldyAbs w | ldyAbsX w
  | staAbs w | staAbsX w | staAbsY w | stxAbs w | styAbs w | adcAbs w | adcAbsX w | adcAbsY w
  | sbcAbs w | sbcAbsX w | sbcAbsY w | cmpAbs w | cmpAbsX w | cmpAbsY w | cpxAbs w | cpyAbs w
  | incAbs w | incAbsX w | decAbs w | decAbsX w | andAbs w | andAbsX w | andAbsY w
  | oraAbs w | oraAbsX w | oraAbsY w | eorAbs w | eorAbsX w | eorAbsY w | bitAbs w
  | aslAbs w | aslAbsX w | lsrAbs w | lsrAbsX w | rolAbs w | rolAbsX w | rorAbs w | rorAbsX w
  | jmpAbs w | jmpInd w | jsr w =>
    obtain ⟨rfl, htail⟩ := List.cons_prefix_cons.mp hoperands
    obtain ⟨rfl, -⟩ := List.cons_prefix_cons.mp htail
    exact decodeOpcode_word (fun _ _ => rfl) w
  | _ =>
    obtain ⟨rfl, -⟩ := List.cons_prefix_cons.mp hoperands
    rfl

/-- The second byte of a word put together from two. -/
theorem hiByte_addrOf (hi lo : Byte) : hiByte (addrOf hi lo) = hi := by
  have hlo : lo.toNat < 256 := lo.isLt
  apply BitVec.eq_of_toNat_eq
  rw [hiByte_toNat, addrOf_toNat]
  omega

/-- R91: an instruction has as many bytes as its mode. -/
theorem encode_length (i : Instr) : (encode i).length = i.length := by
  cases i <;> rfl

/-- R94: an instruction has at most three bytes. -/
theorem encode_length_le (i : Instr) : (encode i).length ≤ 3 :=
  (encode_length i).le.trans i.form.mode.length_bounds.2

/-- R93, R97, R99: an entry of the grid is of the opcode of the table and carries the operand bytes it was given, as
many as its mode has. Its opcode does not depend on them, so it is looked up with both 0. -/
theorem encode_prefix_of_decodeOpcode {op b1 b2 : Byte} {i : Instr} (h : decodeOpcode op b1 b2 = some i) :
    encode i <+: [op, b1, b2] := by
  obtain ⟨w, rfl, rfl⟩ : ∃ w, loByte w = b1 ∧ hiByte w = b2 := ⟨addrOf b2 b1, loByte_addrOf b2 b1, hiByte_addrOf b2 b1⟩
  have hopcode : ∀ o : Byte, ∀ j ∈ decodeOpcode o 0 0, j.opcode = o := by decide
  have hentry : (decodeOpcode op (loByte w) (hiByte w)).map encode =
      (decodeOpcode op 0 0).map fun j => [j.opcode, loByte w, hiByte w].take j.length := by
    unfold decodeOpcode
    simp only [addrOf_bytes]
    generalize op.toNat / 16 = hi, op.toNat % 16 = lo
    split
    case h_17 => rfl
    all_goals
      dsimp only [decodeRow0, decodeRow1, decodeRow2, decodeRow3, decodeRow4, decodeRow5, decodeRow6, decodeRow7,
        decodeRow8, decodeRow9, decodeRowA, decodeRowB, decodeRowC, decodeRowD, decodeRowE, decodeRowF]
      split <;> rfl
  rw [h] at hentry
  obtain ⟨j, hj, htake⟩ := Option.map_eq_some_iff.mp hentry.symm
  rw [hopcode op j hj] at htake
  exact htake ▸ List.take_prefix _ _

/-- `decode` looks at an opcode byte and two more, which are those of the list as far as it goes. -/
theorem take_decoded_bytes (op : Byte) (tail : List Byte) {n : Nat} (hn : n ≤ 3) (hlen : n ≤ tail.length + 1) :
    [op, tail.getD 0 0, tail.getD 1 0].take n = (op :: tail).take n := by
  match tail with
  | [] => match n, hlen with
    | 0, _ | 1, _ => rfl
  | [_] => match n, hlen with
    | 0, _ | 1, _ | 2, _ => rfl
  | _ :: _ :: _ => match n, hn with
    | 0, _ | 1, _ | 2, _ | 3, _ => rfl

/-- What `decode` looks at begins with an instruction's encoding exactly when the list does, if it is long enough. -/
theorem encode_prefix_decoded_bytes_iff {i : Instr} {op : Byte} {tail : List Byte} (hlen : i.length ≤ tail.length + 1) :
    encode i <+: [op, tail.getD 0 0, tail.getD 1 0] ↔ encode i <+: op :: tail := by
  rw [← encode_length] at hlen
  rw [List.prefix_iff_eq_take, List.prefix_iff_eq_take, take_decoded_bytes op tail (encode_length_le i) hlen]

/-- A list of bytes that begins with an instruction's encoding decodes to it and what follows. -/
theorem decode_encode (i : Instr) (rest : List Byte) : decode (encode i ++ rest) = .ok (i, rest) := by
  have hoperands : i.operandBytes.length = i.length - 1 := Nat.eq_sub_of_add_eq (encode_length i)
  have hlen : i.length ≤ (i.operandBytes ++ rest).length + 1 := by
    rw [List.length_append]
    omega
  have hop := decodeOpcode_of_encode_prefix ((encode_prefix_decoded_bytes_iff hlen).mpr (List.prefix_append _ rest))
  rw [encode, List.cons_append, decode_of_decodeOpcode_some hop, if_neg hlen.not_gt, ← hoperands, List.drop_left]

/-- The bytes an instruction is decoded from are its encoding and what is left. -/
theorem encode_append_of_decode {bytes rest : List Byte} {i : Instr} (h : decode bytes = .ok (i, rest)) :
    encode i ++ rest = bytes := by
  match bytes, h with
  | op :: tail, h =>
    obtain ⟨hop, hlen, -⟩ := decode_ok h
    obtain ⟨rest', hbytes⟩ := (encode_prefix_decoded_bytes_iff hlen).mp (encode_prefix_of_decodeOpcode hop)
    rw [← hbytes, decode_encode] at h
    cases h
    exact hbytes

/-- Settles O1: three bytes that begin with an instruction's encoding decode to it, and a list's first three do. -/
theorem decodeInvertsEncode : Obligations.DecodeInvertsEncode :=
  decode_encode

/-- Settles O2: the entry of the grid that answers has the bytes it was read from. -/
theorem encodeInvertsDecode : Obligations.EncodeInvertsDecode :=
  fun _ _ _ => encode_append_of_decode

/-- Settles O5: each of the words is its instruction's encoding. -/
theorem publishedWordsDecode : Obligations.PublishedWordsDecode :=
  ⟨decode_encode (.ldaAbsX 0x1234) [], decode_encode (.staIndY 0x86) [], decode_encode .txs [],
    decode_encode .plp [0xEA], decode_encode (.adcImm 0x46) [], decode_encode (.decAbsX 0x20FF) [],
    decode_encode (.eorIndX 0x20) [], decode_encode .rorAcc [], decode_encode (.bne 0xFA) [], decode_encode (.jmpInd 0x02FF) [],
    decode_encode (.jsr 0x0300) [], decode_encode .sed []⟩

namespace Machine

/-- In Running, a step is the meaning of the instruction whose encoding the fetched bytes begin with. -/
theorem step_of_encode_prefix {s : State} {i : Instr} (hmode : s.mode = .running)
    (h : encode i <+: [s.read s.pc, s.read (s.pc + 1), s.read (s.pc + 2)]) : step s = exec i s := by
  rw [step_running hmode, State.fetch_ok.mpr (decodeOpcode_of_encode_prefix h)]

/-- Settles O6: the bytes that `decode` is given are those that the fetch reads. -/
theorem stepRunsTheDecodedInstruction : Obligations.StepRunsTheDecodedInstruction := by
  intro s i rest hmode hdec
  exact step_of_encode_prefix hmode ⟨rest, encode_append_of_decode hdec⟩

/-- Settles O7: an encoding has at most three bytes, and the fetch reads three. -/
theorem encodedBytesAtPcRun : Obligations.EncodedBytesAtPcRun := by
  intro s i hmode hmem
  refine step_of_encode_prefix hmode (List.prefix_iff_getElem?.mpr fun k hk => ?_)
  have hread := hmem k (encode i)[k] (List.getElem?_eq_getElem hk)
  have hk3 : k < 3 := hk.trans_le (encode_length_le i)
  rw [← hread]
  interval_cases k <;> simp

end Machine

end Sys2Proof

namespace Sys2Proof.Machine

/-! ### What an instruction stores, and the invariant (20_memory.md R62, R66; 10_state.md R37, R38)

Memory after an instruction is memory before it, written at the instruction's own list of addresses. That every other
cell is kept and that memory stays canonical are read off this one fact. -/

/-- `m'` is `m` after one byte has been written at each of the listed addresses, in order. -/
inductive WrittenAt : List Addr → Memory → Memory → Prop where
  | nil (m : Memory) : WrittenAt [] m m
  | cons {a : Addr} {as : List Addr} {m m' : Memory} (v : Byte) (h : WrittenAt as (Memory.write m a.toNat v) m') :
      WrittenAt (a :: as) m m'

theorem WrittenAt.read_of_not_mem {as : List Addr} {m m' : Memory} (h : WrittenAt as m m') {b : Addr} (hb : b ∉ as) :
    Memory.read m' b.toNat = Memory.read m b.toNat := by
  induction h with
  | nil => rfl
  | cons v _ ih =>
    obtain ⟨hne, hb⟩ := not_or.mp (mt List.mem_cons.mpr hb)
    rw [ih hb, Memory.read_write_ne v (fun e => hne (BitVec.eq_of_toNat_eq e.symm))]

theorem WrittenAt.wf {as : List Addr} {m m' : Memory} (h : WrittenAt as m m') (hm : m.wf = true) : m'.wf = true := by
  induction h with
  | nil => exact hm
  | cons v _ ih => exact ih (Memory.wf_write hm (Addr_lt_memSize _) v)

theorem memOperandOf_abs {i : Instr} {w : Addr} (hmode : i.form.mode = .abs) (hbytes : i.operandBytes = wordBytes w) :
    memOperandOf i = some (.abs w) := by
  simp [memOperandOf, hmode, hbytes, wordBytes, addrOf_bytes]

/-- The stores and the read-modify-writes on memory: one write, at the effective address. -/
theorem writtenAt_of_writesBack {i : Instr} {s t : State} {o : MemOperand} {v : Byte}
    (hback : writesBack.contains i.form.mnemonic = true) (hop : memOperandOf i = some o)
    (hmem : t.mem = Memory.write s.mem (o.ea s).toNat v) : WrittenAt (storedAt i s) s.mem t.mem := by
  have hstored : storedAt i s = [o.ea s] := by
    rw [storedAt, if_pos hback, hop]
    rfl
  rw [hstored, hmem]
  exact .cons v (.nil _)

/-- A trap entry writes the three cells below SP. -/
theorem State.enterTrap_writtenAt (s : State) (ret : Addr) (n : Nat) :
    WrittenAt [stackAddr s.sp, stackAddr (s.sp - 1), stackAddr (s.sp - 2)] s.mem (s.enterTrap ret n).mem := by
  rw [← sp_sub_two]
  exact .cons _ (.cons _ (.cons _ (.nil _)))

/-- R66, R77, R136: what each instruction does to memory. -/
theorem exec_writtenAt {i : Instr} {s t : State} (h : exec i s = .next t) : WrittenAt (storedAt i s) s.mem t.mem := by
  cases i with
  | staZp | staZpX | staIndX | staIndY | stxZp | stxZpY | styZp | styZpX | incZp | incZpX | decZp | decZpX
  | aslZp | aslZpX | lsrZp | lsrZpX | rolZp | rolZpX | rorZp | rorZpX =>
    cases h; exact writtenAt_of_writesBack rfl rfl rfl
  | staAbs | stxAbs | styAbs | incAbs | decAbs | aslAbs | lsrAbs | rolAbs | rorAbs =>
    cases h; exact writtenAt_of_writesBack rfl (memOperandOf_abs rfl rfl) rfl
  | staAbsX | incAbsX | decAbsX | aslAbsX | lsrAbsX | rolAbsX | rorAbsX =>
    cases h; exact writtenAt_of_writesBack rfl (memOperandOf_absX rfl rfl) rfl
  | staAbsY => cases h; exact writtenAt_of_writesBack rfl (memOperandOf_absY rfl rfl) rfl
  | pha | php => cases h; exact .cons _ (.nil _)
  | jsr => cases h; exact .cons _ (.cons _ (.nil _))
  | brk => cases h; exact State.enterTrap_writtenAt s _ 7
  | bpl | bmi | bvc | bvs | bcc | bcs | bne | beq => cases h; rw [State.branch_frame]; exact .nil _
  | _ => cases h; exact .nil _

/-- Settles O17: the cells an instruction writes are its list. -/
theorem memoryWrittenOnlyWhereStored : Obligations.MemoryWrittenOnlyWhereStored :=
  fun _ _ _ _ h hb => (exec_writtenAt h).read_of_not_mem hb

/-- Every instruction keeps the invariant: its writes keep memory canonical, and no instruction is listed as a writer of
B or of bit 5. -/
theorem exec_inv {i : Instr} {s t : State} (hs : s.Inv) (h : exec i s = .next t) : t.Inv where
  memWf := (exec_writtenAt h).wf hs.memWf
  oneSet := (flagsWrittenOnlyByTheirWriters i s t .one hs h List.not_mem_nil).trans hs.oneSet
  bClear := (flagsWrittenOnlyByTheirWriters i s t .b hs h List.not_mem_nil).trans hs.bClear

/-- Settles O11: a step that completes is an instruction. -/
theorem stepKeepsInvariant : Obligations.StepKeepsInvariant := by
  intro s t hs hstep
  obtain ⟨-, i, -, hexec⟩ := step_next hstep
  exact exec_inv hs hexec

/-! ### PC, the registers and CYC after an instruction (10_state.md R32 to R36, R42) -/

/-- Settles O14: every instruction that transfers no control retires, past as many bytes as it has. -/
theorem pcMovesPastTheInstruction : Obligations.PcMovesPastTheInstruction := by
  intro i s t hi h
  replace hi : controlTransfers.contains i.form.mnemonic = false := by simpa using hi
  cases i with
  | bpl | bmi | bvc | bvs | bcc | bcs | bne | beq | jmpAbs | jmpInd | jsr | rts | brk | rti => cases hi
  | _ => cases h; rfl

/-- R32 to R35, by the register each instruction is listed for: that one is excluded, and the others are kept. -/
theorem exec_get_of_not_writesReg {i : Instr} {s t : State} {r : Reg} (hr : writesReg r i.form = false)
    (h : exec i s = .next t) : t.get r = s.get r := by
  cases i with
  | ldaImm | ldaZp | ldaZpX | ldaAbs | ldaAbsX | ldaAbsY | ldaIndX | ldaIndY | txa | tya
  | adcImm | adcZp | adcZpX | adcAbs | adcAbsX | adcAbsY | adcIndX | adcIndY
  | sbcImm | sbcZp | sbcZpX | sbcAbs | sbcAbsX | sbcAbsY | sbcIndX | sbcIndY
  | andImm | andZp | andZpX | andAbs | andAbsX | andAbsY | andIndX | andIndY
  | oraImm | oraZp | oraZpX | oraAbs | oraAbsX | oraAbsY | oraIndX | oraIndY
  | eorImm | eorZp | eorZpX | eorAbs | eorAbsX | eorAbsY | eorIndX | eorIndY
  | aslAcc | lsrAcc | rolAcc | rorAcc =>
    cases r with
    | a => cases hr
    | x | y | sp => cases h; rfl
  | ldxImm | ldxZp | ldxZpY | ldxAbs | ldxAbsY | tax | tsx | inx | dex =>
    cases r with
    | x => cases hr
    | a | y | sp => cases h; rfl
  | ldyImm | ldyZp | ldyZpX | ldyAbs | ldyAbsX | tay | iny | dey =>
    cases r with
    | y => cases hr
    | a | x | sp => cases h; rfl
  | txs | jsr | rts | rti | pha | php | plp =>
    cases r with
    | sp => cases hr
    | a | x | y => cases h; rfl
  | brk =>
    cases r with
    | sp => cases hr
    | a | x | y => cases h; rw [State.enterTrap_frame]; rfl
  | pla =>
    cases r with
    | a | sp => cases hr
    | x | y => cases h; rfl
  | bpl | bmi | bvc | bvs | bcc | bcs | bne | beq => cases h; rw [State.branch_frame]; cases r <;> rfl
  | _ => cases h; cases r <;> rfl

/-- Settles O16: each register by its list, and Mode by none. -/
theorem registersWrittenOnlyByTheirWriters : Obligations.RegistersWrittenOnlyByTheirWriters :=
  fun _ _ _ h => ⟨fun _ hr => exec_get_of_not_writesReg hr h, exec_mode h⟩

/-- The state with CYC further on. -/
def State.elapse (s : State) (n : Nat) : State := { s with cyc := s.cyc + n }

theorem State.elapse_retire (s : State) (len c n : Nat) : (s.retire len c).elapse n = (s.elapse n).retire len c := by
  simp only [State.retire, State.elapse, Nat.add_right_comm]

theorem State.elapse_jump (s : State) (target : Addr) (c n : Nat) :
    (s.jump target c).elapse n = (s.elapse n).jump target c := by
  simp only [State.jump, State.elapse, Nat.add_right_comm]

theorem State.elapse_branch (s : State) (cond : Bool) (off : Byte) (c n : Nat) :
    (s.branch cond off c).elapse n = (s.elapse n).branch cond off c := by
  cases cond with
  | false => exact State.elapse_jump s _ c n
  | true => exact State.elapse_jump s _ _ n

/-- R42: every instruction ends in one of these three ways, and what comes before does not touch CYC. -/
theorem exec_elapse {i : Instr} {s t : State} (h : exec i s = .next t) (n : Nat) :
    exec i (s.elapse n) = .next (t.elapse n) := by
  symm
  cases i with
  | bpl | bmi | bvc | bvs | bcc | bcs | bne | beq =>
    cases h; exact congrArg Host.Outcome.next (State.elapse_branch s _ _ 2 n)
  | jmpAbs | jmpInd | jsr | rts | brk | rti =>
    cases h; exact congrArg Host.Outcome.next (State.elapse_jump _ _ _ n)
  | _ => cases h; exact congrArg Host.Outcome.next (State.elapse_retire _ _ _ n)

/-- Settles O18: the charge is added to whatever CYC holds. -/
theorem cycIsReadByNoInstruction : Obligations.CycIsReadByNoInstruction :=
  fun _ _ _ n h => exec_elapse h n

end Sys2Proof.Machine

namespace Sys2Proof.Machine

/-! ### Which flags an instruction reads (10_state.md R41)

Two statuses that differ in one flag give, by the computation an instruction makes on them, statuses that differ in that
flag at most. Only ADC, SBC, ROL and ROR let a flag into a result, and only through the carry and D. -/

theorem StatusChangesOnly.putFlag {fs : List Flag} {p q : Byte} (h : StatusChangesOnly fs p q) (g : Flag) (on : Bool) :
    StatusChangesOnly fs (putFlag p g on) (putFlag q g on) := by
  intro f hf
  rw [flagOf_putFlag, flagOf_putFlag, h f hf]

theorem StatusChangesOnly.setNZ {fs : List Flag} {p q : Byte} (h : StatusChangesOnly fs p q) (v : Byte) :
    StatusChangesOnly fs (setNZ p v) (setNZ q v) :=
  (h.putFlag .z _).putFlag .n _

theorem StatusChangesOnly.setNZ_carry {fs : List Flag} {p q : Byte} (h : StatusChangesOnly fs p q) (c : Bool)
    (v : Byte) :
    StatusChangesOnly fs (Machine.setNZ (Machine.putFlag p .c c) v) (Machine.setNZ (Machine.putFlag q .c c) v) :=
  (h.putFlag .c c).setNZ v

theorem StatusChangesOnly.bitFlags {fs : List Flag} {p q : Byte} (h : StatusChangesOnly fs p q) (a m : Byte) :
    StatusChangesOnly fs (bitFlags a m p) (bitFlags a m q) :=
  ((h.putFlag .z _).putFlag .n _).putFlag .v _

/-- The result of a computation is the same from both statuses, and its status differs where they do. -/
def SameResult (fs : List Flag) (r r' : Byte × Byte) : Prop := r'.1 = r.1 ∧ StatusChangesOnly fs r.2 r'.2

theorem carryIn_congr {p q : Byte} (h : flagOf q .c = flagOf p .c) : carryIn q = carryIn p :=
  congrArg Bool.toNat h

/-- ADC reads C and D of the status. -/
theorem sameResult_adc {fs : List Flag} {p q : Byte} (h : StatusChangesOnly fs p q) (hc : .c ∉ fs) (hd : .d ∉ fs)
    (a m : Byte) : SameResult fs (adc a m p) (adc a m q) := by
  have hcarry := carryIn_congr (h .c hc)
  rw [adc, adc, h .d hd]
  split
  · rw [adcDecimal, adcDecimal, hcarry]
    exact ⟨rfl, (((h.putFlag .n _).putFlag .v _).putFlag .c _).putFlag .z _⟩
  · rw [adcBinary, adcBinary, hcarry]
    exact ⟨rfl, ((h.putFlag .c _).putFlag .v _).setNZ _⟩

/-- SBC reads C and D of the status. -/
theorem sameResult_sbc {fs : List Flag} {p q : Byte} (h : StatusChangesOnly fs p q) (hc : .c ∉ fs) (hd : .d ∉ fs)
    (a m : Byte) : SameResult fs (sbc a m p) (sbc a m q) := by
  have hcarry := carryIn_congr (h .c hc)
  simp only [sbc, sbcFlags, sbcDecimalResult, sbcDifference, h .d hd, hcarry]
  exact ⟨rfl, ((h.putFlag .c _).putFlag .v _).setNZ _⟩

/-- ROL reads C of the status. -/
theorem sameResult_rolByte {fs : List Flag} {p q : Byte} (h : StatusChangesOnly fs p q) (hc : .c ∉ fs) (v : Byte) :
    SameResult fs (rolByte v p) (rolByte v q) := by
  rw [rolByte, rolByte, carryIn_congr (h .c hc)]
  exact ⟨rfl, h.setNZ_carry _ _⟩

/-- ROR reads C of the status. -/
theorem sameResult_rorByte {fs : List Flag} {p q : Byte} (h : StatusChangesOnly fs p q) (hc : .c ∉ fs) (v : Byte) :
    SameResult fs (rorByte v p) (rorByte v q) := by
  rw [rorByte, rorByte, carryIn_congr (h .c hc)]
  exact ⟨rfl, h.setNZ_carry _ _⟩

/-- `u` is `t` but for flags in `fs`. -/
def DiffersInFlags (fs : List Flag) (t u : State) : Prop := u = { t with p := u.p } ∧ StatusChangesOnly fs t.p u.p

/-! Where an operand is found, and what it holds, does not depend on the status. -/

theorem MemOperand.resolve_putFlag (o : MemOperand) (s : State) (g : Flag) (on : Bool) :
    o.resolve (s.putFlag g on) = o.resolve s := by
  cases o <;> rfl

theorem ReadOperand.penalty_putFlag (o : ReadOperand) (s : State) (g : Flag) (on : Bool) :
    o.penalty (s.putFlag g on) = o.penalty s := by
  cases o with
  | imm v => rfl
  | mem m => exact congrArg (fun r : Resolved => r.crossed.toNat) (m.resolve_putFlag s g on)

theorem RmwOperand.value_putFlag (o : RmwOperand) (s : State) (g : Flag) (on : Bool) :
    o.value (s.putFlag g on) = o.value s := by
  cases o with
  | acc => rfl
  | mem m => exact congrArg (fun r : Resolved => s.read r.ea) (m.resolve_putFlag s g on)

theorem RmwOperand.writeBack_putFlag (o : RmwOperand) (s : State) (r : Byte) (g : Flag) (on : Bool) :
    o.writeBack (s.putFlag g on) r = (o.writeBack s r).putFlag g on := by
  cases o with
  | acc => rfl
  | mem m => exact congrArg (fun d : Resolved => (s.write d.ea r).putFlag g on) (m.resolve_putFlag s g on)

theorem differsInFlags_accumulate {fs : List Flag} {op : Byte → Byte → Byte → Byte × Byte} {s : State} {g : Flag}
    {on : Bool} {o : ReadOperand} (n : Nat)
    (h : SameResult fs (op s.a (o.value s) s.p) (op s.a (o.value s) (Machine.putFlag s.p g on))) :
    DiffersInFlags fs (s.accumulate op o n) ((s.putFlag g on).accumulate op o n) := by
  obtain ⟨hresult, hstatus⟩ := h
  rw [State.accumulate_spec, State.accumulate_spec, ReadOperand.value_putFlag, ReadOperand.penalty_putFlag]
  refine ⟨?_, hstatus⟩
  rw [State.putFlag_a, State.putFlag_p, hresult]
  rfl

theorem differsInFlags_modify {fs : List Flag} {op : Byte → Byte → Byte × Byte} {s : State} {g : Flag}
    {on : Bool} {o : RmwOperand} (n : Nat)
    (h : SameResult fs (op (o.value s) s.p) (op (o.value s) (Machine.putFlag s.p g on))) :
    DiffersInFlags fs (s.modify op o n) ((s.putFlag g on).modify op o n) := by
  obtain ⟨hresult, hstatus⟩ := h
  rw [State.modify, State.modify, RmwOperand.value_putFlag, State.putFlag_p, hresult, RmwOperand.writeBack_putFlag]
  exact ⟨rfl, hstatus⟩

theorem differsInFlags_branch {s : State} {f g : Flag} (hg : g ∉ [f]) (on b : Bool) (off : Byte) (n : Nat) :
    DiffersInFlags [f] (s.branch (s.flag g == b) off n)
      ((s.putFlag f on).branch ((s.putFlag f on).flag g == b) off n) := by
  have hflag : (s.putFlag f on).flag g = s.flag g := statusChangesOnly_putFlag s.p f on g hg
  rw [hflag]
  cases s.flag g == b <;> exact ⟨rfl, statusChangesOnly_putFlag s.p f on⟩

theorem not_mem_singleton_of_reader {m : Mnemonic} {f g : Flag} (hf : m ∉ flagReaders f)
    (hg : (flagReaders g).contains m = true) : g ∉ [f] := by
  intro h
  rw [List.mem_singleton.mp h] at hg
  exact hf (List.contains_iff_mem.mp hg)

/-- R41, by the computation each instruction makes on the status. -/
theorem exec_putFlag {i : Instr} {s t : State} {f : Flag} (on : Bool) (hf : i.form.mnemonic ∉ flagReaders f)
    (h : exec i s = .next t) : ∃ u, exec i (s.putFlag f on) = .next u ∧ DiffersInFlags [f] t u := by
  have hp : StatusChangesOnly [f] s.p (putFlag s.p f on) := statusChangesOnly_putFlag s.p f on
  cases i with
  | php | brk => exact absurd (by cases f <;> decide) hf
  | bpl | bmi | bvc | bvs | bcc | bcs | bne | beq =>
    cases h; exact ⟨_, rfl, differsInFlags_branch (not_mem_singleton_of_reader hf rfl) on _ _ 2⟩
  | adcImm | adcZp | adcZpX | adcAbs | adcAbsX | adcAbsY | adcIndX | adcIndY =>
    have hc : .c ∉ [f] := not_mem_singleton_of_reader hf rfl
    have hd : .d ∉ [f] := not_mem_singleton_of_reader hf rfl
    cases h; exact ⟨_, rfl, differsInFlags_accumulate _ (sameResult_adc hp hc hd _ _)⟩
  | sbcImm | sbcZp | sbcZpX | sbcAbs | sbcAbsX | sbcAbsY | sbcIndX | sbcIndY =>
    have hc : .c ∉ [f] := not_mem_singleton_of_reader hf rfl
    have hd : .d ∉ [f] := not_mem_singleton_of_reader hf rfl
    cases h; exact ⟨_, rfl, differsInFlags_accumulate _ (sameResult_sbc hp hc hd _ _)⟩
  | rolAcc | rolZp | rolZpX | rolAbs | rolAbsX =>
    have hc : .c ∉ [f] := not_mem_singleton_of_reader hf rfl
    cases h; exact ⟨_, rfl, differsInFlags_modify _ (sameResult_rolByte hp hc _)⟩
  | rorAcc | rorZp | rorZpX | rorAbs | rorAbsX =>
    have hc : .c ∉ [f] := not_mem_singleton_of_reader hf rfl
    cases h; exact ⟨_, rfl, differsInFlags_modify _ (sameResult_rorByte hp hc _)⟩
  | cmpImm | cmpZp | cmpZpX | cmpAbs | cmpAbsX | cmpAbsY | cmpIndX | cmpIndY
  | cpxImm | cpxZp | cpxAbs | cpyImm | cpyZp | cpyAbs
  | aslAcc | aslZp | aslZpX | aslAbs | aslAbsX | lsrAcc | lsrZp | lsrZpX | lsrAbs | lsrAbsX =>
    cases h; exact ⟨_, rfl, rfl, hp.setNZ_carry _ _⟩
  | bitZp | bitAbs => cases h; exact ⟨_, rfl, rfl, hp.bitFlags _ _⟩
  | plp | rti => cases h; exact ⟨_, rfl, rfl, fun _ _ => rfl⟩
  | clc | sec | cli | sei | clv | cld | sed => cases h; exact ⟨_, rfl, rfl, hp.putFlag _ _⟩
  | staZp | staZpX | staAbs | staAbsX | staAbsY | staIndX | staIndY
  | stxZp | stxZpY | stxAbs | styZp | styZpX | styAbs
  | txs | pha | jmpAbs | jmpInd | jsr | rts | nop =>
    cases h; exact ⟨_, rfl, rfl, hp⟩
  | _ => cases h; exact ⟨_, rfl, rfl, hp.setNZ _⟩

/-- Settles O19: putting a flag changes the status in that flag alone. -/
theorem flagsReadOnlyByTheirReaders : Obligations.FlagsReadOnlyByTheirReaders := by
  intro i s t f on hf h
  obtain ⟨u, hexec, hstate, hstatus⟩ := exec_putFlag on hf h
  exact ⟨u, hexec, hstate, fun g hg => hstatus g (mt List.mem_singleton.mp hg)⟩

end Sys2Proof.Machine

namespace Sys2Proof.Machine

/-! ### Reset (70_reset_and_hazards.md R330, R331, R333) -/

/-- Settles O21: the operation writes each field as the rule has it; P is RESET_P stored whole. -/
theorem resetSetsEveryRegister : Obligations.ResetSetsEveryRegister := by
  intro s cfg
  refine ⟨?_, flagsPulled_of_storedStatus (State.resetOp_p s cfg), rfl⟩
  obtain ⟨resetP, source⟩ := cfg
  cases source with
  | vector => rfl
  | fixed a => rfl

/-- A status stored whole has bit 5 set and B clear (10_state.md R37, R38). -/
theorem inv_of_storedStatus {s : State} {v : Byte} (hmem : s.mem.wf = true) (hp : s.p = storedStatus v) : s.Inv where
  memWf := hmem
  oneSet := flagsPulled_of_storedStatus hp .one
  bClear := flagsPulled_of_storedStatus hp .b

/-- R46, R333: on zero-filled memory the vector holds 0x0000. -/
theorem resetOp_of_zeroFilled {s : State} (h : s.mem = Memory.zeroFilled) : s.resetOp {} = State.reset := by
  obtain ⟨a, x, y, sp, pc, p, cyc, mem, mode⟩ := s
  cases h
  rfl

/-- Settles O12: P is RESET_P stored whole, and memory is kept. -/
theorem resetMeetsInvariant : Obligations.ResetMeetsInvariant := by
  have hreset : State.reset.Inv := inv_of_storedStatus (v := 0x24) rfl rfl
  exact ⟨hreset, fun s cfg hmem => inv_of_storedStatus hmem (State.resetOp_p s cfg)⟩

/-- On zero-filled memory the opcode at PC is BRK's. -/
theorem step_reset : step State.reset = .next (State.reset.enterTrap 2 7) := rfl

/-- Settles O22: by R333 and the trap of BRK, whose three pushes and vector are then looked up. -/
theorem resetStateIsResetOfZeroFilledMemory : Obligations.ResetStateIsResetOfZeroFilledMemory := by
  refine ⟨fun s => resetOp_of_zeroFilled, _, step_reset, ?_⟩
  decide

/-! ### What the host reads and loads (20_memory.md R72, 41_execution_engine.md R158) -/

/-- Settles O25: by Mode. -/
theorem registersReadableOnceReset : Obligations.RegistersReadableOnceReset := by
  intro s
  cases hmode : s.mode with
  | unreset => exact ⟨fun _ => by rw [State.hostReadRegs, hmode], fun h => absurd rfl h⟩
  | running => exact ⟨nofun, fun _ => by rw [State.hostReadRegs, hmode]⟩
  | halted f => exact ⟨nofun, fun _ => by rw [State.hostReadRegs, hmode]⟩

/-- Byte `k` of a list of bytes stored from `n` on is in cell `n + k`. -/
theorem Memory.read_ofBytesFrom (image : List Byte) :
    ∀ n k : Nat, n + image.length ≤ memSize → (hk : k < image.length) →
      Memory.read (Memory.ofBytesFrom n image) (n + k) = image[k] := by
  induction image with
  | nil => exact fun _ _ _ hk => absurd hk (Nat.not_lt_zero _)
  | cons v rest ih =>
    intro n k hn hk
    rw [List.length_cons] at hn hk
    have hfit : n + 1 + rest.length ≤ memSize := by omega
    rw [Memory.ofBytesFrom]
    cases k with
    | zero =>
      have hwf := Memory.wfFrom_ofBytesFrom rest (n + 1) hfit
      exact Memory.read_cons_same (Memory.read_below hwf n.lt_succ_self)
    | succ k =>
      rw [Memory.read_cons_ne (by omega), List.getElem_cons_succ, ← ih (n + 1) k hfit (by omega)]
      congr 1
      omega

/-- R72: byte `k` of an image is in cell `k`. -/
theorem Memory.getElem?_of_ofBytes {image : List Byte} (h : image.length = memSize) {k : Nat} (hk : k < memSize) :
    image[k]? = some (Memory.read (Memory.ofBytes image) k) := by
  have hlt : k < image.length := h ▸ hk
  have hread := Memory.read_ofBytesFrom image 0 k (by omega) hlt
  rw [Nat.zero_add] at hread
  rw [Memory.ofBytes, hread, List.getElem?_eq_getElem hlt]

theorem State.hostLoad_of_length {s : State} {image : List Byte} (h : image.length = memSize) :
    s.hostLoad image = .ok { s with mem := Memory.ofBytes image } :=
  if_pos h

theorem State.hostLoad_of_length_ne {s : State} {image : List Byte} (h : image.length ≠ memSize) :
    s.hostLoad image = .error (.imageSizeMismatch image.length) :=
  if_neg h

/-- Settles O23: an image of the right length is stored byte by byte, and no other is. -/
theorem loadReplacesTheWholeMemory : Obligations.LoadReplacesTheWholeMemory := by
  refine fun s image => ⟨fun hlen => ⟨_, State.hostLoad_of_length hlen, rfl, ?_⟩, State.hostLoad_of_length_ne⟩
  exact ⟨Memory.wf_ofBytes hlen.le, fun b => Memory.getElem?_of_ofBytes hlen (Addr_lt_memSize b)⟩

theorem Memory.toBytes_length (m : Memory) : m.toBytes.length = memSize := by
  rw [Memory.toBytes, List.length_map, List.length_range]

theorem Memory.getElem?_toBytes (m : Memory) {k : Nat} (hk : k < memSize) : m.toBytes[k]? = some (Memory.read m k) := by
  rw [Memory.toBytes, List.getElem?_map, List.getElem?_range hk, Option.map_some]

/-- R72: an image is its memory's cells in address order. -/
theorem Memory.toBytes_ofBytes {image : List Byte} (h : image.length = memSize) :
    (Memory.ofBytes image).toBytes = image := by
  refine List.ext_getElem? fun k => ?_
  by_cases hk : k < memSize
  · rw [Memory.getElem?_toBytes _ hk, Memory.getElem?_of_ofBytes h hk]
  · rw [List.getElem?_eq_none (by rw [Memory.toBytes_length]; omega), List.getElem?_eq_none (by omega)]

/-- Settles O24: the cells in order, which after a load are the image's bytes. -/
theorem dumpGivesTheCellsInOrder : Obligations.DumpGivesTheCellsInOrder := by
  refine ⟨fun s => ⟨Memory.toBytes_length s.mem, fun b => Memory.getElem?_toBytes s.mem (Addr_lt_memSize b)⟩, ?_⟩
  intro s t image hload
  by_cases hlen : image.length = memSize
  · rw [State.hostLoad_of_length hlen] at hload
    cases hload
    exact Memory.toBytes_ofBytes hlen
  · rw [State.hostLoad_of_length_ne hlen] at hload
    cases hload

/-! ### Memory is its cells (20_memory.md R60) -/

theorem Memory.wfFrom_cons_iff {lo k : Nat} {v : Byte} {rest : Memory} :
    Memory.wfFrom lo ((k, v) :: rest) = true ↔
      lo ≤ k ∧ k < memSize ∧ v ≠ unlisted ∧ Memory.wfFrom (k + 1) rest = true := by
  simp [Memory.wfFrom, and_assoc]

theorem Memory.read_head (k : Nat) (v : Byte) (rest : Memory) : Memory.read ((k, v) :: rest) k = v :=
  if_pos rfl

theorem Memory.read_tail {k a : Nat} (v : Byte) (rest : Memory) (h : k ≠ a) :
    Memory.read ((k, v) :: rest) a = Memory.read rest a :=
  if_neg h

theorem Memory.le_of_read_ne_unlisted {m : Memory} {lo a : Nat} (h : Memory.wfFrom lo m = true)
    (ha : Memory.read m a ≠ unlisted) : lo ≤ a :=
  not_lt.mp fun hlt => ha (Memory.read_below h hlt)

/-- The first entry of a canonical memory is at the lowest address that does not read as unlisted. -/
theorem Memory.head_le_of_read_ne_unlisted {lo k a : Nat} {v : Byte} {rest : Memory}
    (h : Memory.wfFrom lo ((k, v) :: rest) = true) (ha : Memory.read ((k, v) :: rest) a ≠ unlisted) : k ≤ a :=
  Memory.le_of_read_ne_unlisted (Memory.wfFrom_cons_iff.mpr ⟨le_rfl, (Memory.wfFrom_cons_iff.mp h).2⟩) ha

/-- The first entry of a canonical memory is a cell that does not read as unlisted. -/
theorem Memory.head_read_ne_unlisted {lo k : Nat} {v : Byte} {rest : Memory}
    (h : Memory.wfFrom lo ((k, v) :: rest) = true) : k < memSize ∧ Memory.read ((k, v) :: rest) k ≠ unlisted := by
  obtain ⟨-, hk, hv, -⟩ := Memory.wfFrom_cons_iff.mp h
  exact ⟨hk, (Memory.read_head k v rest).trans_ne hv⟩

/-- Canonical memories that read alike below 65,536 are the same list, entry by entry: the first entries are at the same
address, and the rests read alike again. -/
theorem Memory.eq_of_read_eq {m m' : Memory} {lo : Nat} (h : Memory.wfFrom lo m = true)
    (h' : Memory.wfFrom lo m' = true) (hread : ∀ a, a < memSize → Memory.read m a = Memory.read m' a) : m = m' := by
  induction m generalizing lo m' with
  | nil =>
    cases m' with
    | nil => rfl
    | cons e' rest' =>
      obtain ⟨hk', hne'⟩ := Memory.head_read_ne_unlisted h'
      exact absurd (hread _ hk').symm hne'
  | cons e rest ih =>
    obtain ⟨k, v⟩ := e
    obtain ⟨hk, hne⟩ := Memory.head_read_ne_unlisted h
    cases m' with
    | nil => exact absurd (hread k hk) hne
    | cons e' rest' =>
      obtain ⟨k', v'⟩ := e'
      obtain ⟨hk', hne'⟩ := Memory.head_read_ne_unlisted h'
      have hle : k ≤ k' := Memory.head_le_of_read_ne_unlisted h (hread k' hk' ▸ hne')
      have hge : k' ≤ k := Memory.head_le_of_read_ne_unlisted h' (hread k hk ▸ hne)
      obtain rfl := le_antisymm hle hge
      have hv : v = v' := by rw [← Memory.read_head k v rest, hread k hk, Memory.read_head]
      obtain ⟨-, -, -, hrest⟩ := Memory.wfFrom_cons_iff.mp h
      obtain ⟨-, -, -, hrest'⟩ := Memory.wfFrom_cons_iff.mp h'
      rw [hv, ih hrest hrest' fun a ha => ?_]
      by_cases hak : k = a
      · rw [Memory.read_below hrest (by omega), Memory.read_below hrest' (by omega)]
      · rw [← Memory.read_tail v rest hak, hread a ha, Memory.read_tail v' rest' hak]

/-- Settles O26: every address below 65,536 is a cell's. -/
theorem equalCellsAreEqualMemories : Obligations.EqualCellsAreEqualMemories := by
  intro m m' h h' hread
  exact Memory.eq_of_read_eq h h' fun a ha => hread (BitVec.ofNatLT a ha)

end Sys2Proof.Machine

namespace Sys2Proof.Machine

/-! ### Effective addresses as arithmetic (40_addressing_modes.md R124 to R134) -/

theorem zext_add_toNat (a b : Byte) : (zext (a + b)).toNat = (a.toNat + b.toNat) % 256 := by
  rw [zext_toNat, BitVec.toNat_add]

/-- R127, R130, R134: an index is added unsigned, mod 2^16, and a crossing is a change of page number. -/
theorem indexed_ea_toNat (base : Addr) (idx : Byte) :
    (indexed base idx).ea.toNat = (base.toNat + idx.toNat) % 65536 := by
  rw [indexed, BitVec.toNat_add, zext_toNat]

theorem indexed_crossed (base : Addr) (idx : Byte) :
    (indexed base idx).crossed = decide (base.toNat / 256 ≠ (base.toNat + idx.toNat) % 65536 / 256) := by
  rw [← indexed_ea_toNat, indexed, pageCrossed_eq_decide]

/-- R133: both bytes of a pointer lie in page 0. -/
theorem State.zeroPagePointer_toNat (s : State) (p : Byte) :
    (s.zeroPagePointer p).toNat =
      (Memory.read s.mem p.toNat).toNat + 256 * (Memory.read s.mem ((p.toNat + 1) % 256)).toNat := by
  rw [State.zeroPagePointer, addrOf_toNat, State.read, State.read, zext_toNat, zext_add_toNat]
  rfl

/-- Settles O28: a byte, indexed mod 2^8, is an address in page 0. -/
theorem zeroPageModesStayInPageZero : Obligations.ZeroPageModesStayInPageZero :=
  fun a s => ⟨⟨zext_toNat a, rfl⟩, ⟨zext_add_toNat a s.x, rfl⟩, ⟨zext_add_toNat a s.y, rfl⟩⟩

/-- Settles O29: by the arithmetic of an indexed address. -/
theorem absoluteModesAddTheIndex : Obligations.AbsoluteModesAddTheIndex :=
  fun w s => ⟨⟨rfl, rfl⟩, ⟨indexed_ea_toNat w s.x, indexed_crossed w s.x⟩,
    ⟨indexed_ea_toNat w s.y, indexed_crossed w s.y⟩⟩

/-- Settles O30: by the arithmetic of a pointer in page 0 and of an indexed address. -/
theorem pointerModesReadPageZero : Obligations.PointerModesReadPageZero := by
  intro a s
  have hx : (a + s.x).toNat = (a.toNat + s.x.toNat) % 256 := BitVec.toNat_add a s.x
  refine ⟨⟨?_, rfl⟩, ?_⟩
  · rw [← hx]
    exact State.zeroPagePointer_toNat s (a + s.x)
  · rw [← State.zeroPagePointer_toNat]
    exact ⟨indexed_ea_toNat _ s.y, indexed_crossed _ s.y⟩

/-! ### What is pushed is pulled again (43_stack.md R203, 46_control.md R271 to R275) -/

/-- R203: a pushed status, stored whole, is the status it was, if that had B clear and bit 5 set. -/
theorem State.Inv.storedStatus_pushedStatus {s : State} (h : s.Inv) : storedStatus (pushedStatus s.p) = s.p := by
  refine status_ext fun f => ?_
  rw [flagOf_storedStatus, flagOf_pushedStatus]
  cases f with
  | one => exact h.oneSet.symm
  | b => exact h.bClear.symm
  | n | v | d | i | z | c => rfl

/-- Settles O38: PLP pulls the status that PHP pushed. -/
theorem phpThenPlpRestoresStatus : Obligations.PhpThenPlpRestoresStatus := by
  intro s hs
  have hpull : ((s.push (pushedStatus s.p)).retire 1 3).pull.1 = pushedStatus s.p := (State.pull_push hs.memWf _).1
  have hsp : s.sp - 1 + 1 = s.sp := BitVec.sub_add_cancel s.sp 1
  have hpc : s.pc + 1 + 1 = s.pc + 2 := add_assoc s.pc 1 1
  refine ⟨_, _, exec_php s, exec_plp _, ?_⟩
  rw [hpull, State.pull_snd, State.retire_sp, State.push_sp, hsp, State.setStatus, hs.storedStatus_pushedStatus, ← hpc]
  rfl

/-- Settles O51: JSR is a call with the low byte of its operand; that the pushed cells read back needs the canonical
memory of the invariant. -/
theorem jsrPushesItsLastAddress : Obligations.JsrPushesItsLastAddress := by
  intro w s hs
  refine ⟨_, exec_jsr w s, State.call_frame s _ 6, fun b => ?_⟩
  rw [State.read_call hs.memWf, stackAddr_eq_add, stackAddr_eq_add]

/-- R271, R272: what a 16-bit pull gives after a call, if the stack is then as the call left it. -/
theorem State.pull16_of_call {s t : State} (lo : Byte) (n : Nat) (h : s.mem.wf = true)
    (hmem : t.mem = (s.call lo n).mem) (hsp : t.sp = s.sp - 2) : t.pull16 = (s.pc + 2, { t with sp := s.sp }) := by
  have hlo : s.sp - 2 + 1 = s.sp - 1 := by bv_omega
  have hhi : s.sp - 1 + 1 = s.sp := BitVec.sub_add_cancel s.sp 1
  have hne : stackAddr (s.sp - 1) ≠ stackAddr s.sp := fun e => absurd (stackAddr_inj e) (by bv_omega)
  rw [State.pull16_spec, hsp, hlo, hhi, State.read_congr hmem, State.read_congr hmem, State.read_call h,
    State.read_call h, if_pos rfl, if_neg hne, if_pos rfl, addrOf_bytes]

/-- Settles O54: RTS jumps past the address of JSR's last byte, which the call pushed. -/
theorem rtsReturnsAfterJsr : Obligations.RtsReturnsAfterJsr := by
  intro w q s hs
  have hpull := State.pull16_of_call (t := { s.call (loByte w) 6 with pc := q }) (loByte w) 6 hs.memWf rfl
    (sp_sub_two s.sp)
  have hpc : s.pc + 2 + 1 = s.pc + 3 := add_assoc s.pc 2 1
  refine ⟨_, _, exec_jsr w s, exec_rts _, ?_⟩
  rw [hpull, ← hpc]
  rfl

/-- R275, R307: what trap return does after a trap entry, if the stack is then as the entry left it. -/
theorem State.leaveTrap_of_enterTrap {s t : State} (ret : Addr) (n : Nat) (h : s.mem.wf = true)
    (hmem : t.mem = (s.enterTrap ret n).mem) (hsp : t.sp = s.sp - 3) (c : Nat) :
    t.leaveTrap c = { t with
      sp := s.sp, p := storedStatus (pushedStatus s.p), pc := ret, cyc := t.cyc + c } := by
  have hp : s.sp - 3 + 1 = s.sp - 2 := by bv_omega
  have hlo : s.sp - 2 + 1 = s.sp - 1 := by bv_omega
  have hhi : s.sp - 1 + 1 = s.sp := BitVec.sub_add_cancel s.sp 1
  have hne {p q : Byte} (e : p ≠ q) : stackAddr p ≠ stackAddr q := mt stackAddr_inj e
  have hread := fun b => (State.read_congr hmem b).trans (State.read_enterTrap h ret n b)
  have hreadP : t.read (stackAddr (s.sp - 2)) = pushedStatus s.p := by
    rw [hread, if_neg (hne (by bv_omega)), if_neg (hne (by bv_omega)), if_pos rfl]
  have hreadLo : t.read (stackAddr (s.sp - 1)) = loByte ret := by
    rw [hread, if_neg (hne (by bv_omega)), if_pos rfl]
  have hreadHi : t.read (stackAddr s.sp) = hiByte ret := by
    rw [hread, if_pos rfl]
  rw [State.leaveTrap_spec, hsp, hp, hlo, hhi, hreadP, hreadLo, hreadHi, addrOf_bytes]

theorem State.enterTrap_sp (s : State) (ret : Addr) (n : Nat) : (s.enterTrap ret n).sp = s.sp - 3 := by
  rw [State.enterTrap_frame, ← sp_sub_three]

/-- Settles O57: the handler keeps the stack, so RTI pulls the status and the address that BRK pushed. -/
theorem rtiReturnsFromBrk : Obligations.RtiReturnsFromBrk := by
  intro q p a x y s hs
  obtain ⟨t, ht⟩ : ∃ t, t = s.enterTrap (s.pc + 2) 7 := ⟨_, rfl⟩
  have hbrk : exec .brk s = .next t := ht ▸ exec_brk s
  have hmem : t.mem = (s.enterTrap (s.pc + 2) 7).mem := congrArg State.mem ht
  have hsp : t.sp = s.sp - 3 := (congrArg State.sp ht).trans (State.enterTrap_sp s _ 7)
  have hcyc : t.cyc = s.cyc + 7 := (congrArg State.cyc ht).trans (State.enterTrap_cyc s _ 7)
  have hleave := State.leaveTrap_of_enterTrap (t := { t with pc := q, p := p, a := a, x := x, y := y }) (s.pc + 2) 7
    hs.memWf hmem hsp 6
  refine ⟨t, _, hbrk, exec_rti _, ?_⟩
  rw [hleave, hs.storedStatus_pushedStatus, hcyc, exec_mode hbrk]

end Sys2Proof.Machine
